-- ==== Sys2Proof/Word.lean ====
section
/-! DEFINITION. The value types of the block (00_scope.md R8): a Byte is an unsigned 8-bit value, a
Color an unsigned 16-bit RGB565 value. Coordinates are `Int` once decoded (R8, 30_encoding.md R82). -/

namespace Sys2Proof

/-- An unsigned 8-bit value (00 R8). -/
abbrev Byte := BitVec 8

/-- One 16-bit RGB565 value (00 R8, R12). -/
abbrev Color := BitVec 16

/-- A 16-bit operand field of a request packet before it is read as a number (30 R82, `s16`). -/
abbrev Half := BitVec 16

end Sys2Proof
end

