-- ==== Sys2Proof/Machine/Color.lean ====
section
/-! DEFINITION. Colour packing (40_color_pack.md) and the byte order of a 16-bit value (20_memory.md R54, R56). -/

namespace Sys2Proof.Machine

/-- The high byte of a 16-bit value, `hi(c) = c[15:8]` (00 R9). -/
def hi (c : Color) : Byte := c.extractLsb' 8 8

/-- The low byte of a 16-bit value, `lo(c) = c[7:0]` (00 R9). -/
def lo (c : Color) : Byte := c.extractLsb' 0 8

/-- The 16-bit value of two bytes, high byte first (20 R54, R56). -/
def half (b0 b1 : Byte) : BitVec 16 := b0 ++ b1

/-- `rgb565(r, g, b)`: the top 5, 6 and 5 bits of the channels, red highest (40 R120). -/
def rgb565 (r g b : Byte) : Color := r.extractLsb' 3 5 ++ g.extractLsb' 2 6 ++ b.extractLsb' 3 5

/-- `expand565(c)`: a Color back to three channels, low bits zero (40 R123). -/
def expand565 (c : Color) : Byte × Byte × Byte :=
  (c.extractLsb' 11 5 ++ 0#3, c.extractLsb' 5 6 ++ 0#2, c.extractLsb' 0 5 ++ 0#3)

end Sys2Proof.Machine
end

