-- ==== Sys2Proof/Syntax.lean ====
section
/-! DEFINITION. The instructions: one constructor for each row of spec/opcode_table.json. The first eight are
the host requests (30_encoding.md R81 to R90), `reserved` is a byte 0 that names no request (R92),
`renderAll` and `clearRgb` are the pseudo-requests (R96), and the `op...` constructors are the commands the
streamer sends to the panel (R98, R99). A panel command carries its parameter bytes: the three whose parameters the
source gives have a field for each, and the other 23, whose number of parameters is an open parameter of the
implementation (00_scope.md R7, 30 R99), carry a list, empty by default where the default table has no parameter. -/

namespace Sys2Proof

/-- One instruction of the block: a host request, a pseudo-request or a wire command. -/
inductive Instr where
  /-- RESET, packet 01 (R83). -/
  | reset
  /-- CLEAR color, packet 02 (R84). -/
  | clear (color : Color)
  /-- RENDER start_col, end_col, start_row, end_row, packet 03 (R85). -/
  | render (startCol endCol startRow endRow : Byte)
  /-- LINE x0, y0, x1, y1, color, packet 04 (R86). -/
  | line (x0 y0 x1 y1 : Half) (color : Color)
  /-- CHAR x, y, ch, color, packet 05 (R87). -/
  | char (x y : Half) (ch : Byte) (color : Color)
  /-- STRING x, y, text, color, packet 06 (R88). -/
  | string (x y : Half) (color : Color) (text : List Byte)
  /-- SCROLL hOffset, vOffset, interval, enable, packet 07 (R89). -/
  | scroll (hOffset vOffset interval : Byte) (enable : Bool)
  /-- INVERT on, packet 08 (R90). -/
  | invert (on : Bool)
  /-- A byte 0 of 00 or 09 to FF: no request (R92). -/
  | reserved (b0 : Byte)
  /-- RENDERALL, an abbreviation of RENDER 0, 95, 0, 63 (R96). -/
  | renderAll
  /-- CLEARRGB r, g, b, an abbreviation of CLEAR rgb565(r, g, b) (R96). -/
  | clearRgb (r g b : Byte)
  /-- OP_SETCOLUMN: set-column-address (R99). -/
  | opSetColumn (first last : Byte)
  /-- OP_SETROW: set-row-address (R99). -/
  | opSetRow (first last : Byte)
  /-- OP_SCROLLSETUP: scroll setup (R99). -/
  | opScrollSetup (hOffset startRow numRows vOffset interval : Byte)
  /-- OP_SCROLLOFF: scroll deactivate (R99). -/
  | opScrollOff (params : List Byte := [])
  /-- OP_SCROLLON: scroll activate (R99). -/
  | opScrollOn (params : List Byte := [])
  /-- OP_CONTRASTA: contrast register, first channel (R99). -/
  | opContrastA (params : List Byte)
  /-- OP_CONTRASTB: contrast register, second channel (R99). -/
  | opContrastB (params : List Byte)
  /-- OP_CONTRASTC: contrast register, third channel (R99). -/
  | opContrastC (params : List Byte)
  /-- OP_MASTERCURRENT: master current (R99). -/
  | opMasterCurrent (params : List Byte)
  /-- OP_PRECHARGEA: precharge-speed register, first (R99). -/
  | opPrechargeA (params : List Byte)
  /-- OP_PRECHARGEB: precharge-speed register, second (R99). -/
  | opPrechargeB (params : List Byte)
  /-- OP_PRECHARGEC: precharge-speed register, third (R99). -/
  | opPrechargeC (params : List Byte)
  /-- OP_SETREMAP: color-depth remap (R99). -/
  | opSetRemap (params : List Byte)
  /-- OP_STARTLINE: start line (R99). -/
  | opStartLine (params : List Byte)
  /-- OP_DISPLAYOFFSET: display offset (R99). -/
  | opDisplayOffset (params : List Byte)
  /-- OP_NORMALDISPLAY: normal display (R99). -/
  | opNormalDisplay (params : List Byte := [])
  /-- OP_INVERTDISPLAY: invert display (R99). -/
  | opInvertDisplay (params : List Byte := [])
  /-- OP_SETMULTIPLEX: multiplex ratio (R99). -/
  | opSetMultiplex (params : List Byte)
  /-- OP_SETMASTER: master configuration (R99). -/
  | opSetMaster (params : List Byte)
  /-- OP_DISPLAYOFF: display off (R99). -/
  | opDisplayOff (params : List Byte := [])
  /-- OP_DISPLAYON: display-on-normal (R99). -/
  | opDisplayOn (params : List Byte := [])
  /-- OP_POWERMODE: power-save (R99). -/
  | opPowerMode (params : List Byte)
  /-- OP_PHASEADJUST: phase-adjust (R99). -/
  | opPhaseAdjust (params : List Byte)
  /-- OP_CLOCKDIV: clock divider (R99). -/
  | opClockDiv (params : List Byte)
  /-- OP_PRECHARGELEVEL: precharge level (R99). -/
  | opPrechargeLevel (params : List Byte)
  /-- OP_VCOMH: VCOMH level (R99). -/
  | opVcomh (params : List Byte)
  deriving DecidableEq, Repr

end Sys2Proof
end

