-- ==== Sys2Proof/Config.lean ====
section
/-! DEFINITION. What an implementation fixes (00_scope.md R7): the open parameters, a record the state carries so
that every statement quantifies over them (10_state.md R36), and the free values, opaque constants of which nothing
can be proved. The default values of the record's fields are in Machine/Params.lean. -/

namespace Sys2Proof

/-- The names of the 26 panel commands (30_encoding.md R99). -/
inductive WireOp where
  | setColumn
  | setRow
  | scrollSetup
  | scrollOff
  | scrollOn
  | contrastA
  | contrastB
  | contrastC
  | masterCurrent
  | prechargeA
  | prechargeB
  | prechargeC
  | setRemap
  | startLine
  | displayOffset
  | normalDisplay
  | invertDisplay
  | setMultiplex
  | setMaster
  | displayOff
  | displayOn
  | powerMode
  | phaseAdjust
  | clockDiv
  | prechargeLevel
  | vcomh
  deriving DecidableEq, Repr

/-- The numbers of parameter bytes of the 23 panel commands whose number the source does not give, open parameters
(30 R99, 92 D11). -/
structure ParamCounts where
  scrollOff : Nat
  scrollOn : Nat
  contrastA : Nat
  contrastB : Nat
  contrastC : Nat
  masterCurrent : Nat
  prechargeA : Nat
  prechargeB : Nat
  prechargeC : Nat
  setRemap : Nat
  startLine : Nat
  displayOffset : Nat
  normalDisplay : Nat
  invertDisplay : Nat
  setMultiplex : Nat
  setMaster : Nat
  displayOff : Nat
  displayOn : Nat
  powerMode : Nat
  phaseAdjust : Nat
  clockDiv : Nat
  prechargeLevel : Nat
  vcomh : Nat
  deriving DecidableEq, Repr

/-- The open parameters OP_*: the opcode value of each of the 26 panel commands, and the parameter counts (00 R7, 30
R99, 92 D11). -/
structure Opcodes where
  setColumn : Byte
  setRow : Byte
  scrollSetup : Byte
  scrollOff : Byte
  scrollOn : Byte
  contrastA : Byte
  contrastB : Byte
  contrastC : Byte
  masterCurrent : Byte
  prechargeA : Byte
  prechargeB : Byte
  prechargeC : Byte
  setRemap : Byte
  startLine : Byte
  displayOffset : Byte
  normalDisplay : Byte
  invertDisplay : Byte
  setMultiplex : Byte
  setMaster : Byte
  displayOff : Byte
  displayOn : Byte
  powerMode : Byte
  phaseAdjust : Byte
  clockDiv : Byte
  prechargeLevel : Byte
  vcomh : Byte
  /-- How many parameter bytes each command has. -/
  counts : ParamCounts
  deriving DecidableEq, Repr

/-- An electrical level of an output line. -/
inductive Level where
  | low
  | high
  deriving DecidableEq, Repr

/-- The open parameters of 00 R7 other than GLYPH_ROM, which the state holds as a memory of its own. -/
structure Config where
  /-- OP_* (30 R99). -/
  ops : Opcodes
  /-- INIT_PROG, the initialisation program (42 R155). -/
  initProg : List Byte
  /-- BG_COLOR, the background colour of glyph cells (45 R205). -/
  bgColor : Color
  /-- SCROLL_START_ROW (46 R233). -/
  scrollStartRow : Byte
  /-- SCROLL_NUM_ROWS (46 R233). -/
  scrollNumRows : Byte
  /-- POL_CS: the level of an asserted bus-select line (10 R24). -/
  polCS : Level
  /-- POL_DC: the level of the command/data line in command-mode (10 R24). -/
  polDC : Level
  /-- POL_RES: the level of an asserted reset line (10 R24). -/
  polRES : Level
  deriving DecidableEq, Repr

/-- FB_POWERON (00 R7, 10 R40): what byte `addr` of the framebuffer holds after the `boot`-th power-on until it is
written. A free value: log entry 2. -/
opaque Config.fbPowerOn : (boot addr : Nat) → Byte

/-- TxOracle beyond the answers the state lists (00 R7, 41 R133): whether transfer number `n` succeeds. A free
value: log entry 4. -/
opaque Config.txOracle : (n : Nat) → Bool

/-- GLYPH_ROM's open entries (00 R7, 10 R22): row `r` of glyph `g` for `g` in 1..38. A free value: log entry 6. -/
opaque Config.glyphByte : (g r : Nat) → Byte

/-- What an engine register holds while no request runs (10 R31, R32, R33: unspecified): register number `reg` at
the `draw`-th draw. A free value: log entry 7. -/
opaque Config.freeReg : (draw reg : Nat) → Int

end Sys2Proof
end

