-- ==== Sys2Proof/Machine/Params.lean ====
section
/-! DEFINITION. The parameters the source fixes (00_scope.md R6) and the default values of those it leaves open
(00 R7, 30_encoding.md R99, 42_reset_sequencer.md R155). PRESUMED: every default opcode, parameter count and parameter
byte is the spec's general-knowledge value (93 G1, G2, G6, G7), log entries 5 and 18; unsafe where a claim uses one
without naming it. -/

namespace Sys2Proof.Machine

/-- WIDTH, panel and framebuffer columns (00 R6). -/
def panelWidth : Nat := 96

/-- HEIGHT, panel and framebuffer rows (00 R6). -/
def panelHeight : Nat := 64

/-- FB_WORDS (00 R6). -/
def fbWords : Nat := 6144

/-- FRAME_BYTES (00 R6). -/
def frameBytes : Nat := 12288

/-- CHAR_ADVANCE, the x advance per character of STRING (00 R6). -/
def charAdvance : Nat := 8

/-- T_PRE_MS (00 R6). -/
def tPreMs : Nat := 5

/-- T_PULSE_MS (00 R6). -/
def tPulseMs : Nat := 80

/-- T_SETTLE_MS (00 R6). -/
def tSettleMs : Nat := 20

/-- The default parameter counts (30 R99, 93 G1). -/
def defaultCounts : ParamCounts where
  scrollOff := 0
  scrollOn := 0
  contrastA := 1
  contrastB := 1
  contrastC := 1
  masterCurrent := 1
  prechargeA := 1
  prechargeB := 1
  prechargeC := 1
  setRemap := 1
  startLine := 1
  displayOffset := 1
  normalDisplay := 0
  invertDisplay := 0
  setMultiplex := 1
  setMaster := 1
  displayOff := 0
  displayOn := 0
  powerMode := 1
  phaseAdjust := 1
  clockDiv := 1
  prechargeLevel := 1
  vcomh := 1

/-- The default panel command table (30 R99, 93 G1). -/
def defaultOpcodes : Opcodes where
  setColumn := 0x15#8
  setRow := 0x75#8
  scrollSetup := 0x27#8
  scrollOff := 0x2E#8
  scrollOn := 0x2F#8
  contrastA := 0x81#8
  contrastB := 0x82#8
  contrastC := 0x83#8
  masterCurrent := 0x87#8
  prechargeA := 0x8A#8
  prechargeB := 0x8B#8
  prechargeC := 0x8C#8
  setRemap := 0xA0#8
  startLine := 0xA1#8
  displayOffset := 0xA2#8
  normalDisplay := 0xA4#8
  invertDisplay := 0xA7#8
  setMultiplex := 0xA8#8
  setMaster := 0xAD#8
  displayOff := 0xAE#8
  displayOn := 0xAF#8
  powerMode := 0xB0#8
  phaseAdjust := 0xB1#8
  clockDiv := 0xB3#8
  prechargeLevel := 0xBB#8
  vcomh := 0xBE#8
  counts := defaultCounts

/-- The default initialisation program, command by command in the order of 42 R155 (93 G2). -/
def defaultInitCommands : List (List Byte) :=
  [ [0xAE#8],
    [0x75#8, 0x00#8, 0x3F#8],
    [0x15#8, 0x00#8, 0x5F#8],
    [0xA0#8, 0x72#8],
    [0xA1#8, 0x00#8],
    [0xA2#8, 0x00#8],
    [0xA4#8],
    [0xA8#8, 0x3F#8],
    [0xAD#8, 0x8E#8],
    [0xB0#8, 0x0B#8],
    [0xB1#8, 0x31#8] ] ++
  [ [0xB3#8, 0xF0#8],
    [0x8A#8, 0x64#8],
    [0x8B#8, 0x78#8],
    [0x8C#8, 0x64#8],
    [0xBB#8, 0x3A#8],
    [0xBE#8, 0x3E#8],
    [0x87#8, 0x06#8],
    [0x81#8, 0x91#8],
    [0x82#8, 0x50#8],
    [0x83#8, 0x7D#8],
    [0xAF#8] ]

/-- The default INIT_PROG, 43 bytes (42 R155). -/
def defaultInitProg : List Byte := defaultInitCommands.flatten

/-- The default configuration (00 R7): background black, scroll rows 0 and 64, lines active low. -/
def defaultConfig : Config where
  ops := defaultOpcodes
  initProg := defaultInitProg
  bgColor := 0x0000#16
  scrollStartRow := 0#8
  scrollNumRows := 64#8
  polCS := .low
  polDC := .low
  polRES := .low

/-- GLYPH_ROM at power-on: entry 0 is blank (10 R22), the others are open (00 R7, log entry 6). -/
def defaultGlyphRom : Vector (Vector Byte 8) 39 :=
  Vector.ofFn fun g => Vector.ofFn fun r => if g.val = 0 then 0x00#8 else Config.glyphByte g.val r.val

end Sys2Proof.Machine
end

