-- ==== Sys2Proof/Machine/State.lean ====
section
/-! DEFINITION. The state of the block as plain data (10_state.md R20), its value after power-on (R40), and the
reasons a step of the model can stop. -/

namespace Sys2Proof.Machine

/-- The value of the bus-select and the reset line (10 R24). -/
inductive Line where
  | asserted
  | deasserted
  deriving DecidableEq, Repr

/-- The value of the command/data-select line (10 R24). -/
inductive DcMode where
  | command
  | data
  deriving DecidableEq, Repr

/-- RSTATE, the reset sequencer's state (10 R23). -/
inductive RState where
  | idle
  | resetAsserted
  | resetReleasedSettling
  | ready
  deriving DecidableEq, Repr

/-- The sub-causes of FAULT, each of one cause (60 R260). -/
inductive FaultKind where
  /-- PreconditionViolation(coord): a LINE end point off the panel. -/
  | coord
  /-- PreconditionViolation(area): a RenderArea that is not valid. -/
  | area
  /-- PreconditionViolation(order): a bus-using request while RSTATE is not Ready. -/
  | order
  /-- PreconditionViolation(plot): a pixel write off the panel, unreachable (20 R53). -/
  | plot
  /-- TransmissionFailure(command): a command byte outside INIT_PROG. -/
  | command
  /-- TransmissionFailure(burst): a pixel burst. -/
  | burst
  /-- TransmissionFailure(init): a byte of INIT_PROG. -/
  | init
  /-- IllegalRequest(opcode): a byte 0 that names no request. -/
  | opcode
  deriving DecidableEq, Repr

/-- FAULT: no fault, or the sub-cause raised, and the request index it was raised at (10 R25). Its codes and its
register image are in Flags.lean. -/
structure FaultReg where
  kind : Option FaultKind
  rqi : Nat
  deriving DecidableEq, Repr

/-- An event of TRACE (00 R10). -/
inductive Event where
  | cs (v : Line)
  | dc (v : DcMode)
  | res (v : Line)
  | tx (bs : List Byte)
  | txFail (bs : List Byte)
  | delay (ms : Nat)
  deriving DecidableEq, Repr

/-- RenderArea: four inclusive bounds (43 R170). -/
structure RenderArea where
  startCol : Byte
  endCol : Byte
  startRow : Byte
  endRow : Byte
  deriving DecidableEq, Repr

/-- The line engine's registers (10 R31). -/
structure LineRegs where
  x : Int
  y : Int
  x1 : Int
  y1 : Int
  dx : Int
  dy : Int
  sx : Int
  sy : Int
  err : Int
  e2 : Int
  deriving DecidableEq, Repr

/-- The glyph blitter's registers (10 R32). -/
structure BlitRegs where
  g : Fin 39
  row : Fin 8
  col : Fin 8
  k : Nat
  cx : Int
  deriving DecidableEq, Repr

/-- The streamer's registers (10 R33) but for its position in the command sequence, which is `State.pending`. -/
structure StreamRegs where
  area : RenderArea
  byteLength : Nat
  row : Nat
  col : Nat
  deriving DecidableEq, Repr

/-- The bytes of a memory that have been written since power-on, by rising address; an unlisted address has not
been written (10 R41). -/
abbrev Memory := List Host.Cell

/-- The state of the block: 10 R20's table, the open parameters (00 R7), the host's request bytes, and the model's
own bookkeeping of free values (the last four fields). -/
structure State where
  /-- FB as 12288 bytes: word `i` is bytes `2i` (high) and `2i + 1` (low) (10 R21, 20 R51). -/
  fb : Memory
  /-- GLYPH_ROM, 39 glyphs of 8 row bytes (10 R22). -/
  glyphRom : Vector (Vector Byte 8) 39
  /-- RSTATE (10 R23). -/
  rstate : RState
  /-- The bus-select line (10 R24). -/
  cs : Line
  /-- The command/data-select line (10 R24). -/
  dc : DcMode
  /-- The reset line (10 R24). -/
  res : Line
  /-- FAULT (10 R25). -/
  fault : FaultReg
  /-- BUSY (10 R26). -/
  busy : Bool
  /-- RQI (10 R28). -/
  rqi : Nat
  /-- TRACE (10 R30). -/
  trace : List Event
  /-- The line engine's registers (10 R31). -/
  line : LineRegs
  /-- The glyph blitter's registers (10 R32). -/
  blit : BlitRegs
  /-- The streamer's registers (10 R33). -/
  streamer : StreamRegs
  /-- The streamer's position in the command sequence being sent: the bytes not yet sent (10 R33). DESIGN CHOICE: where
  10 R33 and R40 leave the position unspecified, outside a request, nothing is left to send; unsafe, log entry 27. -/
  pending : List Byte
  /-- The open parameters (00 R7). -/
  cfg : Config
  /-- The request stream: bytes the host has sent and the block has not taken (20 R50, 30 R80). -/
  requests : List Byte
  /-- The platform applies power-on reset (70 R300, R304). -/
  powerOnSignal : Bool
  /-- TxOracle's next answers, first to come first; true is ok (41 R133, log entry 4). -/
  txScript : List Bool
  /-- Transfers made so far, the argument of TxOracle's free answers (log entry 4). -/
  txCount : Nat
  /-- Power-on resets so far, the argument of the free framebuffer contents (log entry 2). -/
  boots : Nat
  /-- Draws of free engine register values so far (log entry 7). -/
  draws : Nat
  deriving DecidableEq, Repr

/-- The reasons a step of the model stops. The block's own faults are not among them: they are FAULT, a next state
(60 R266). -/
inductive Fault where
  /-- Raised by `step` where BUSY is 1 and no command byte is pending: a request is half done and its operands, which
  are not state (10 R27), are unknown. No run reaches it. Safe: the model stops where the block goes on (log entry
  10). -/
  | requestNotHeld
  deriving DecidableEq, Repr

/-- The reasons the model gives an instruction no meaning. -/
inductive Refusal where
  /-- Raised by an arm of `exec` that has no meaning yet; no arm raises it. Safe: nothing can be proved of it. -/
  | notModelled (mnemonic : String)
  deriving DecidableEq, Repr

/-- Engine registers at reset: zero. DESIGN CHOICE, the spec gives none (10 R40: unspecified); unsafe, log entry 7. -/
def LineRegs.reset : LineRegs :=
  { x := 0, y := 0, x1 := 0, y1 := 0, dx := 0, dy := 0, sx := 0, sy := 0, err := 0, e2 := 0 }

/-- The blitter's registers at reset: zero (log entry 7). -/
def BlitRegs.reset : BlitRegs := { g := 0, row := 0, col := 0, k := 0, cx := 0 }

/-- The streamer's registers at reset: zero (log entry 7). -/
def StreamRegs.reset : StreamRegs :=
  { area := { startCol := 0#8, endCol := 0#8, startRow := 0#8, endRow := 0#8 }, byteLength := 0, row := 0, col := 0 }

/-- The state after power-on (10 R40, 70 R300). The framebuffer lists nothing: every word holds FB_POWERON. The
parameters are the spec's defaults (log entries 5, 6). -/
def State.reset : State where
  fb := []
  glyphRom := defaultGlyphRom
  rstate := .idle
  cs := .deasserted
  dc := .data
  res := .deasserted
  fault := { kind := none, rqi := 0 }
  busy := false
  rqi := 0
  trace := []
  line := LineRegs.reset
  blit := BlitRegs.reset
  streamer := StreamRegs.reset
  pending := []
  cfg := defaultConfig
  requests := []
  powerOnSignal := false
  txScript := []
  txCount := 0
  boots := 0
  draws := 0

end Sys2Proof.Machine
end

