-- ==== Sys2Proof/Machine/Memory.lean ====
section
/-! DEFINITION. The framebuffer (10_state.md R21, 20_memory.md R50 to R53): bytes by rising address, words above
them. Word `i` is bytes `2i` (high) and `2i + 1` (low), the byte-doubled layout of 20 R51. -/

namespace Sys2Proof.Machine

/-- The byte last written at an address; none where nothing has been written since power-on. -/
def Memory.read : Memory → Nat → Option Byte
  | [], _ => none
  | (a, v) :: rest, addr => if a = addr then some v else Memory.read rest addr

/-- Writes one byte, keeping the addresses rising. -/
def Memory.write : Memory → Nat → Byte → Memory
  | [], addr, v => [(addr, v)]
  | (a, w) :: rest, addr, v =>
    if addr < a then (addr, v) :: (a, w) :: rest
    else if addr = a then (addr, v) :: rest
    else (a, w) :: Memory.write rest addr v

/-- Addresses strictly rising, all at or above `low`, all inside the framebuffer. -/
def Memory.wfFrom : Nat → Memory → Bool
  | _, [] => true
  | low, (a, _) :: rest => decide (low ≤ a) && decide (a < frameBytes) && Memory.wfFrom (a + 1) rest

/-- The canonical form of the framebuffer's memory. No entry can equal what an unlisted address reads as, which is
no written byte at all (log entry 2). -/
def Memory.wf (m : Memory) : Bool := Memory.wfFrom 0 m

/-- The bytes of words `i`, `i + 1`, ... (`n` of them), all holding `c`. -/
def Memory.filled (c : Color) : Nat → Nat → Memory
  | _, 0 => []
  | i, n + 1 => (2 * i, hi c) :: (2 * i + 1, lo c) :: Memory.filled c (i + 1) n

/-- A byte of FB: the byte last written, or FB_POWERON where none has been (10 R40). -/
def State.fbByte (s : State) (addr : Nat) : Byte := (s.fb.read addr).getD (Config.fbPowerOn s.boots addr)

/-- `FB[i]` (20 R50, R51). -/
def State.fbWord (s : State) (i : Nat) : Color := half (s.fbByte (2 * i)) (s.fbByte (2 * i + 1))

/-- `FB[i] <- c` (00 R9, 20 R51). -/
def writeWord (i : Nat) (c : Color) (s : State) : State :=
  { s with fb := (s.fb.write (2 * i) (hi c)).write (2 * i + 1) (lo c) }

/-- `for i in 0 .. 6143: FB[i] <- c` (46 R230). -/
def fillAll (c : Color) (s : State) : State := { s with fb := Memory.filled c 0 fbWords }

/-- The one index formula, `y * WIDTH + x` (20 R51). -/
def pixelIndex (x y : Nat) : Nat := y * panelWidth + x

end Sys2Proof.Machine
end

