-- ==== Sys2Proof/Machine/Operands.lean ====
section
/-! DEFINITION. What the operand fields mean: draw coordinates (30_encoding.md R82), the RenderArea and what is
derived from it (43_address_window.md), the clip test (45_glyph_blitter.md R204) and the end point test
(44_line_engine.md R180). -/

namespace Sys2Proof.Machine

/-- An `s16` operand as a number (30 R82). -/
def coord (v : Half) : Int := v.toInt

/-- The panel, `0..95` by `0..63` (20 R50). -/
def onPanel (x y : Int) : Bool := decide (0 ≤ x) && decide (x ≤ 95) && decide (0 ≤ y) && decide (y ≤ 63)

/-- The clip test: the origin keeps the whole 8 by 8 cell on the panel (45 R204). -/
def cellFits (x y : Int) : Bool := decide (0 ≤ x) && decide (x ≤ 88) && decide (0 ≤ y) && decide (y ≤ 56)

/-- `ValidArea(a)` (43 R170). -/
def RenderArea.valid (a : RenderArea) : Bool :=
  decide (a.startCol.toNat ≤ a.endCol.toNat) && decide (a.endCol.toNat ≤ 95) &&
  decide (a.startRow.toNat ≤ a.endRow.toNat) && decide (a.endRow.toNat ≤ 63)

/-- How many columns an area has (43 R171). -/
def RenderArea.cols (a : RenderArea) : Nat := a.endCol.toNat - a.startCol.toNat + 1

/-- How many rows an area has (43 R171). -/
def RenderArea.rows (a : RenderArea) : Nat := a.endRow.toNat - a.startRow.toNat + 1

/-- `ByteLength(a)` of a valid area (43 R171). -/
def RenderArea.byteLength (a : RenderArea) : Nat := 2 * a.cols * a.rows

/-- `FullFrame` (43 R174). -/
def fullFrame : RenderArea := { startCol := 0x00#8, endCol := 0x5F#8, startRow := 0x00#8, endRow := 0x3F#8 }

/-- `AddressWindow(a)`, columns then rows, start then end (43 R172). -/
def addressWindow (ops : Opcodes) (a : RenderArea) : List Byte :=
  [ops.setColumn, a.startCol, a.endCol, ops.setRow, a.startRow, a.endRow]

/-- The two bytes of a pixel on the wire, high byte first (20 R54, 30 R100). -/
def State.pixelBytes (s : State) (x y : Nat) : List Byte :=
  [hi (s.fbWord (pixelIndex x y)), lo (s.fbWord (pixelIndex x y))]

/-- `RegionBytes(a)`: row by row, and within a row column by column (46 R232). -/
def State.regionBytes (s : State) (a : RenderArea) : List Byte :=
  (List.range' a.startRow.toNat a.rows).flatMap fun row =>
    (List.range' a.startCol.toNat a.cols).flatMap fun col => s.pixelBytes col row

end Sys2Proof.Machine
end

