-- ==== Sys2Proof/Machine/Ops.lean ====
section
/-! DEFINITION. The shared operations of the block (00_scope.md R9): the line primitives, Tx and Delay
(41_command_channel.md R133, R137, 60_exceptions.md R279), the channel (41 R130 to R132), Plot (20_memory.md R53),
taking a fault (60 R266), the frame of a request (10_state.md R26, R28) and power-on reset (70_reset_and_hazards.md
R300). Each is a function from state to state; `andThen` stops a sequence at a fault. -/

namespace Sys2Proof.Machine

/-- The block is halted: a fault is recorded (10 R25, 60 R266). -/
def State.halted (s : State) : Bool := s.fault.kind.isSome

/-- The rest of a pseudocode after a step that may raise: nothing after a `raise` runs (00 R9, 60 R266). -/
def State.andThen (s : State) (f : State → State) : State := if s.halted then s else f s

/-- Appends an event to TRACE (10 R30). -/
def logEvent (e : Event) (s : State) : State := { s with trace := s.trace ++ [e] }

/-- `SetCS(v)` (41 R137). -/
def setCS (v : Line) (s : State) : State := { s with cs := v, trace := s.trace ++ [.cs v] }

/-- `SetDC(v)` (41 R137). -/
def setDC (v : DcMode) (s : State) : State := { s with dc := v, trace := s.trace ++ [.dc v] }

/-- `SetRES(v)` (41 R137). -/
def setRES (v : Line) (s : State) : State := { s with res := v, trace := s.trace ++ [.res v] }

/-- `Delay(n)`: a wait that always ends; the model has no clock (60 R279, log entry 16). -/
def delay (n : Nat) (s : State) : State := logEvent (.delay n) s

/-- `RSTATE <- v` (42 R150). -/
def setRState (v : RState) (s : State) : State := { s with rstate := v }

/-- Line engine registers while no LINE runs: free values (10 R31, log entry 7). -/
def freeLine (n : Nat) : LineRegs :=
  { x := Config.freeReg n 0, y := Config.freeReg n 1, x1 := Config.freeReg n 2, y1 := Config.freeReg n 3,
    dx := Config.freeReg n 4, dy := Config.freeReg n 5, sx := Config.freeReg n 6, sy := Config.freeReg n 7,
    err := Config.freeReg n 8, e2 := Config.freeReg n 9 }

/-- Blitter registers while no CHAR or STRING runs: free values (10 R32, log entry 7). -/
def freeBlit (n : Nat) : BlitRegs :=
  { g := Fin.ofNat 39 (Config.freeReg n 10).toNat, row := Fin.ofNat 8 (Config.freeReg n 11).toNat,
    col := Fin.ofNat 8 (Config.freeReg n 12).toNat, k := (Config.freeReg n 13).toNat, cx := Config.freeReg n 14 }

/-- Streamer registers while no bus-using request runs: free values (10 R33, log entry 7). -/
def freeStream (n : Nat) : StreamRegs :=
  { area := { startCol := BitVec.ofInt 8 (Config.freeReg n 15), endCol := BitVec.ofInt 8 (Config.freeReg n 16),
              startRow := BitVec.ofInt 8 (Config.freeReg n 17), endRow := BitVec.ofInt 8 (Config.freeReg n 18) },
    byteLength := (Config.freeReg n 19).toNat, row := (Config.freeReg n 20).toNat,
    col := (Config.freeReg n 21).toNat }

/-- BUSY falls and the engine registers lose their meaning (10 R26, R31 to R33): they take free values, but for the
streamer's position in the command sequence, which stays where the last sequence left it (log entry 27). -/
def release (s : State) : State :=
  { s with
    busy := false
    line := freeLine s.draws
    blit := freeBlit s.draws
    streamer := freeStream s.draws
    draws := s.draws + 1 }

/-- `raise`: FAULT takes the cause and RQI, BUSY falls, the block is halted and what was still to be sent is never
sent; RQI, the lines, TRACE and FB stay (60 R266, R268; log entries 25 and 27). -/
def raise (k : FaultKind) (s : State) : State :=
  release { s with fault := { kind := some k, rqi := s.rqi }, pending := [] }

/-- Whether TxOracle answers ok to the `k`-th transfer from now: the host's script first, then the free value
(41 R133, log entry 4). -/
def State.txOk (s : State) (k : Nat) : Bool := (s.txScript[k]?).getD (Config.txOracle (s.txCount + k))

/-- One answer of TxOracle is used up. -/
def takeAnswer (s : State) : State := { s with txScript := s.txScript.tail, txCount := s.txCount + 1 }

/-- `Tx(bs)` on behalf of a caller whose failure is `k` (41 R133). -/
def tx (k : FaultKind) (bs : List Byte) (s : State) : State :=
  if s.txOk 0 then logEvent (.tx bs) (takeAnswer s) else raise k (logEvent (.txFail bs) (takeAnswer s))

/-- `SendCommand(b)` (41 R130). -/
def sendCommand (k : FaultKind) (b : Byte) (s : State) : State :=
  (tx k [b] (setDC .command (setCS .asserted s))).andThen fun s => setCS .deasserted (setDC .data s)

/-- The streamer's position moves: these command bytes are still to be sent (10 R33). -/
def setPending (bs : List Byte) (s : State) : State := { s with pending := bs }

/-- The bytes of a sequence one after the other, each in its own select cycle; `outer` is what stays to be sent
after it (41 R131). DESIGN CHOICE: at its end the position is back at `outer`, which is nothing in a request, where
10 R33 leaves it unspecified once the request has ended; unsafe, log entry 27. -/
def sendFrom (k : FaultKind) (outer : List Byte) : List Byte → State → State
  | [], s => s
  | b :: bs, s => (sendCommand k b (setPending (bs ++ outer) s)).andThen (sendFrom k outer bs)

/-- `SendCommandSequence(bs)` (41 R131). -/
def sendSequence (k : FaultKind) (bs : List Byte) (s : State) : State := sendFrom k s.pending bs s

/-- `SendPixelData(bs)`, one burst (41 R132). -/
def sendPixelData (k : FaultKind) (bs : List Byte) (s : State) : State :=
  (tx k bs (setDC .data (setCS .asserted s))).andThen (setCS .deasserted)

/-- `Plot(x, y, c)` (20 R53; the sub-cause: log entry 26). -/
def plot (x y : Int) (c : Color) (s : State) : State :=
  if onPanel x y then writeWord (pixelIndex x.toNat y.toNat) c s else raise .plot s

/-- `RequireReady` before the rest of a request (46 R237). -/
def requireReady (body : State → State) (s : State) : State :=
  if s.rstate = .ready then body s else raise .order s

/-- A request ends without a fault: RQI advances and BUSY falls (10 R26, R28). -/
def complete (s : State) : State := release { s with rqi := s.rqi + 1 }

/-- BUSY rises when a whole packet has been taken (10 R26, 30 R91). -/
def start (s : State) : State := { s with busy := true }

/-- A request from its packet to its end; a halted block runs none (30 R91, 60 R266). -/
def request (body : State → State) (s : State) : State :=
  if s.halted then s else (body (start s)).andThen complete

/-- Power-on reset of the block: every piece of state at its power-on value, FB unspecified again, the parameters,
GLYPH_ROM and the model's counters kept; the host starts over, so bytes it had sent are gone (70 R300, 60 R269,
log entry 12). The other engine registers take free values; DESIGN CHOICE: the streamer's position, unspecified by
10 R40, is at no sequence, so nothing is left to send; unsafe, log entry 27. -/
def powerOn (s : State) : State :=
  { State.reset with
    glyphRom := s.glyphRom
    cfg := s.cfg
    txScript := s.txScript
    txCount := s.txCount
    boots := s.boots + 1
    line := freeLine s.draws
    blit := freeBlit s.draws
    streamer := freeStream s.draws
    draws := s.draws + 1 }

end Sys2Proof.Machine
end

