-- ==== Sys2Proof/Machine/Display.lean ====
section
/-! DEFINITION. The display controller: CLEAR, RENDER, SCROLL, INVERT (46_display_controller.md) and the
pseudo-requests (30_encoding.md R96). -/

namespace Sys2Proof.Machine

/-- The streamer latches the area, its length and the counters' start (10 R33). -/
def latchArea (a : RenderArea) (s : State) : State :=
  { s with streamer := { area := a, byteLength := a.byteLength, row := a.startRow.toNat, col := a.startCol.toNat } }

/-- The counters at the last pixel of the area (10 R33, 46 R232). -/
def endCounters (a : RenderArea) (s : State) : State :=
  { s with streamer := { s.streamer with row := a.endRow.toNat, col := a.endCol.toNat } }

/-- The pixel burst of an area (46 R231, R232). -/
def sendRegion (a : RenderArea) (s : State) : State :=
  sendPixelData .burst (s.regionBytes a) (endCounters a s)

/-- `RenderRegion(a)`: the area check, six command bytes, one burst (46 R231). -/
def renderRegion (a : RenderArea) (s : State) : State :=
  if a.valid then
    (sendSequence .command (addressWindow s.cfg.ops a) (latchArea a s)).andThen (sendRegion a)
  else raise .area s

/-- RENDER's body (46 R231). -/
def renderBody (a : RenderArea) (s : State) : State := requireReady (renderRegion a) s

/-- CLEAR's body: the fill, then a full-frame render (46 R230). -/
def clearBody (color : Color) (s : State) : State :=
  requireReady (fun s => renderRegion fullFrame (fillAll color s)) s

/-- The six bytes of the scroll setup (46 R233). -/
def scrollSetupBytes (cfg : Config) (h v interval : Byte) : List Byte :=
  [cfg.ops.scrollSetup, h, cfg.scrollStartRow, cfg.scrollNumRows, v, interval]

/-- The activate or deactivate opcode (46 R233). -/
def scrollSwitch (cfg : Config) (enable : Bool) : Byte := if enable then cfg.ops.scrollOn else cfg.ops.scrollOff

/-- SCROLL's body: the setup first, the switch last (46 R233). -/
def scrollBody (h v interval : Byte) (enable : Bool) (s : State) : State :=
  requireReady
    (fun s => (sendSequence .command (scrollSetupBytes s.cfg h v interval) s).andThen
      (sendCommand .command (scrollSwitch s.cfg enable))) s

/-- The invert or normal display opcode (46 R234). -/
def invertByte (cfg : Config) (on : Bool) : Byte := if on then cfg.ops.invertDisplay else cfg.ops.normalDisplay

/-- INVERT's body (46 R234). -/
def invertBody (on : Bool) (s : State) : State :=
  requireReady (fun s => sendCommand .command (invertByte s.cfg on) s) s

/-- CLEAR (46 R230). -/
def execClear (color : Color) (s : State) : Host.Outcome State Fault Refusal := .next (request (clearBody color) s)

/-- RENDER (46 R231). -/
def execRender (startCol endCol startRow endRow : Byte) (s : State) : Host.Outcome State Fault Refusal :=
  .next (request (renderBody ⟨startCol, endCol, startRow, endRow⟩) s)

/-- SCROLL (46 R233). -/
def execScroll (h v interval : Byte) (enable : Bool) (s : State) : Host.Outcome State Fault Refusal :=
  .next (request (scrollBody h v interval enable) s)

/-- INVERT (46 R234). -/
def execInvert (on : Bool) (s : State) : Host.Outcome State Fault Refusal := .next (request (invertBody on) s)

/-- RENDERALL, RENDER of the full frame (30 R96). -/
def execRenderAll (s : State) : Host.Outcome State Fault Refusal := .next (request (renderBody fullFrame) s)

/-- CLEARRGB, CLEAR of the packed colour (30 R96). -/
def execClearRgb (r g b : Byte) (s : State) : Host.Outcome State Fault Refusal :=
  .next (request (clearBody (rgb565 r g b)) s)

end Sys2Proof.Machine
end

