-- ==== Sys2Proof/Machine/Glyph.lean ====
section
/-! DEFINITION. The glyph blitter: the character map, CHAR and STRING (45_glyph_blitter.md). The blitter works on
its registers in the state. -/

namespace Sys2Proof.Machine

/-- Upper-casing: 0x61..0x7A move down by 0x20, every other code stays (45 R200). -/
def upperCase (ch : Byte) : Nat := if 0x61 ≤ ch.toNat ∧ ch.toNat ≤ 0x7A then ch.toNat - 0x20 else ch.toNat

/-- `CharToGlyphIndex(ch)` as a number (45 R200). -/
def glyphNumber (ch : Byte) : Nat :=
  let u := upperCase ch
  if 0x41 ≤ u ∧ u ≤ 0x5A then u - 0x41 + 1
  else if 0x30 ≤ u ∧ u ≤ 0x39 then u - 0x30 + 27
  else if u = 0x2E then 37
  else if u = 0x3A then 38
  else 0

/-- `CharToGlyphIndex(ch)`, an index in 0..38 (45 R200). -/
def charToGlyphIndex (ch : Byte) : Fin 39 := Fin.ofNat 39 (glyphNumber ch)

/-- `GlyphBit(g, row, col)`: bit `7 - col` of the row byte (45 R202). -/
def glyphBit (rom : Vector (Vector Byte 8) 39) (g : Fin 39) (row col : Fin 8) : Bool :=
  rom[g][row].getLsbD (7 - col.val)

/-- The colour of a cell pixel: `color` where the glyph's bit is set, else BG_COLOR (45 R205). -/
def State.cellColor (s : State) (ch : Byte) (color : Color) (row col : Fin 8) : Color :=
  if glyphBit s.glyphRom (charToGlyphIndex ch) row col then color else s.cfg.bgColor

/-- The 64 positions of a cell, row by row (45 R205). -/
def cellPositions : List (Fin 8 × Fin 8) :=
  (List.finRange 8).flatMap fun row => (List.finRange 8).map fun col => (row, col)

/-- The blitter latches the glyph index (10 R32). -/
def setGlyph (g : Fin 39) (s : State) : State := { s with blit := { s.blit with g := g } }

/-- The blitter's row and column counters (10 R32). -/
def setCell (p : Fin 8 × Fin 8) (s : State) : State := { s with blit := { s.blit with row := p.1, col := p.2 } }

/-- The colour the blitter plots at its counters (45 R205). -/
def State.blitColor (s : State) (color : Color) : Color :=
  if glyphBit s.glyphRom s.blit.g s.blit.row s.blit.col then color else s.cfg.bgColor

/-- One pixel of the cell at origin (x, y), at the counters (45 R203). -/
def plotCell (x y : Int) (color : Color) (s : State) : State :=
  plot (x + s.blit.col.val) (y + s.blit.row.val) (s.blitColor color) s

/-- The pixels of a cell at the given positions, in order (45 R205). -/
def blitLoop (x y : Int) (color : Color) : List (Fin 8 × Fin 8) → State → State
  | [], s => s
  | p :: ps, s => (plotCell x y color (setCell p s)).andThen (blitLoop x y color ps)

/-- `CharBlit(x, y, ch, color)`: a silent clip, or all 64 pixels (45 R203, R204, R205). -/
def charBlit (x y : Int) (ch : Byte) (color : Color) (s : State) : State :=
  if cellFits x y then blitLoop x y color cellPositions (setGlyph (charToGlyphIndex ch) s) else s

/-- The character counter and the running cell origin (10 R32, 45 R206). -/
def setOrigin (k : Nat) (cx : Int) (s : State) : State := { s with blit := { s.blit with k := k, cx := cx } }

/-- The characters of a string from the running origin on, advancing 8 columns for each (45 R206, R208). -/
def stringLoop (y : Int) (color : Color) : List Byte → State → State
  | [], s => s
  | ch :: text, s =>
    (charBlit s.blit.cx y ch color s).andThen fun s =>
      stringLoop y color text (setOrigin (s.blit.k + 1) (s.blit.cx + charAdvance) s)

/-- CHAR's body (45 R203). -/
def charBody (x y : Int) (ch : Byte) (color : Color) (s : State) : State := charBlit x y ch color s

/-- STRING's body: the start test once, then the characters (45 R206, R207). -/
def stringBody (x y : Int) (color : Color) (text : List Byte) (s : State) : State :=
  if cellFits x y then stringLoop y color text (setOrigin 0 x s) else s

/-- CHAR (45 R203). -/
def execChar (x y : Half) (ch : Byte) (color : Color) (s : State) : Host.Outcome State Fault Refusal :=
  .next (request (charBody (coord x) (coord y) ch color) s)

/-- STRING (45 R206). -/
def execString (x y : Half) (color : Color) (text : List Byte) (s : State) : Host.Outcome State Fault Refusal :=
  .next (request (stringBody (coord x) (coord y) color text) s)

end Sys2Proof.Machine
end

