-- ==== Sys2Proof/Machine/LineEngine.lean ====
section
/-! DEFINITION. The line engine: LINE (44_line_engine.md). The engine works on its registers in the state. -/

namespace Sys2Proof.Machine

/-- Setup (44 R181); `Int.sign` is the spec's `sign` (R186). `e2` is not written and keeps its old value. -/
def LineRegs.setup (old : LineRegs) (x0 y0 x1 y1 : Int) : LineRegs :=
  { x := x0, y := y0, x1 := x1, y1 := y1,
    dx := |x1 - x0|, dy := -|y1 - y0|, sx := (x1 - x0).sign, sy := (y1 - y0).sign,
    err := |x1 - x0| + -|y1 - y0|, e2 := old.e2 }

/-- The first test of a step: `if e2 >= dy then err <- err + dy; x <- x + sx` (44 R182). -/
def LineRegs.stepX (r : LineRegs) : LineRegs :=
  if r.dy ≤ r.e2 then { r with err := r.err + r.dy, x := r.x + r.sx } else r

/-- The second test of a step: `if e2 <= dx then err <- err + dx; y <- y + sy` (44 R182). -/
def LineRegs.stepY (r : LineRegs) : LineRegs :=
  if r.e2 ≤ r.dx then { r with err := r.err + r.dx, y := r.y + r.sy } else r

/-- Step: `e2` is computed once, before either test (44 R182). -/
def LineRegs.step (r : LineRegs) : LineRegs := LineRegs.stepY (LineRegs.stepX { r with e2 := 2 * r.err })

/-- The current point is the end point (44 R183). -/
def LineRegs.atEnd (r : LineRegs) : Bool := decide (r.x = r.x1) && decide (r.y = r.y1)

/-- More iterations than any legal line needs (log entry 15). -/
def lineFuel : Nat := 160

/-- Writes the line engine's registers. -/
def setLine (r : LineRegs) (s : State) : State := { s with line := r }

/-- The loop: plot, compare with the end point, step (44 R180, R183). -/
def lineLoop (color : Color) : Nat → State → State
  | 0, s => s
  | n + 1, s =>
    (plot s.line.x s.line.y color s).andThen fun s =>
      if s.line.atEnd then s else lineLoop color n (setLine s.line.step s)

/-- The points the loop plots from given registers, in order: the address of each is `pixelIndex`. -/
def LineRegs.points : Nat → LineRegs → List (Int × Int)
  | 0, _ => []
  | n + 1, r => (r.x, r.y) :: (if r.atEnd then [] else LineRegs.points n r.step)

/-- The points of LINE x0, y0, x1, y1, in plot order (44 R180). -/
def linePoints (x0 y0 x1 y1 : Int) : List (Int × Int) :=
  LineRegs.points lineFuel (LineRegs.setup LineRegs.reset x0 y0 x1 y1)

/-- LINE's body: all four coordinates are tested before the first pixel (44 R180). -/
def lineBody (x0 y0 x1 y1 : Int) (color : Color) (s : State) : State :=
  if onPanel x0 y0 && onPanel x1 y1 then
    lineLoop color lineFuel (setLine (LineRegs.setup s.line x0 y0 x1 y1) s)
  else raise .coord s

/-- LINE (44 R180). -/
def execLine (x0 y0 x1 y1 : Half) (color : Color) (s : State) : Host.Outcome State Fault Refusal :=
  .next (request (lineBody (coord x0) (coord y0) (coord x1) (coord y1) color) s)

end Sys2Proof.Machine
end

