-- ==== Sys2Proof/Machine/Reset.lean ====
section
/-! DEFINITION. RESET, the panel's reset sequence (42_reset_sequencer.md). -/

namespace Sys2Proof.Machine

/-- Steps 1 to 3: the reset pulse and its three waits (42 R151, R152, R153, R158). -/
def resetPulse (s : State) : State :=
  let s1 := delay tPreMs (setCS .deasserted (setRES .deasserted (setRState .idle s)))
  let s2 := delay tPulseMs (setRState .resetAsserted (setRES .asserted s1))
  delay tSettleMs (setRState .resetReleasedSettling (setRES .deasserted s2))

/-- RESET's body: the pulse, the initialisation program, then Ready (42 R150, R154). -/
def resetBody (s : State) : State :=
  (sendSequence .init s.cfg.initProg (resetPulse s)).andThen (setRState .ready)

/-- RESET (42 R150). -/
def execReset (s : State) : Host.Outcome State Fault Refusal := .next (request resetBody s)

end Sys2Proof.Machine
end

