-- ==== Sys2Proof/WellFormed.lean ====
section
/-! DEFINITION. Which instructions an encoding exists for: a STRING's length travels in one byte, so its text has at
most 255 characters (30_encoding.md R88), `reserved` carries a byte that names no request (R92), and a panel command
has as many parameter bytes as the implementation's table says (R98, R99). Every other constructor's operands fill
their fields exactly. -/

namespace Sys2Proof

/-- The byte 0 values that name no request: 0x00 and 0x09 to 0xFF (R92). -/
def isReservedByte (b : Byte) : Bool := b == 0x00#8 || decide (0x09 ≤ b.toNat)

/-- The instruction has an encoding under the implementation's panel command table (R88, R92, R98, R99). -/
def Instr.wellFormed (ops : Opcodes) : Instr → Bool
  | .string _ _ _ text => decide (text.length ≤ 255)
  | .reserved b0 => isReservedByte b0
  | .reset | .clear _ | .render _ _ _ _ | .line _ _ _ _ _ | .char _ _ _ _ | .scroll _ _ _ _ | .invert _ => true
  | .renderAll | .clearRgb _ _ _ | .opSetColumn _ _ | .opSetRow _ _ | .opScrollSetup _ _ _ _ _ => true
  | .opScrollOff params => params.length == ops.counts.scrollOff
  | .opScrollOn params => params.length == ops.counts.scrollOn
  | .opContrastA params => params.length == ops.counts.contrastA
  | .opContrastB params => params.length == ops.counts.contrastB
  | .opContrastC params => params.length == ops.counts.contrastC
  | .opMasterCurrent params => params.length == ops.counts.masterCurrent
  | .opPrechargeA params => params.length == ops.counts.prechargeA
  | .opPrechargeB params => params.length == ops.counts.prechargeB
  | .opPrechargeC params => params.length == ops.counts.prechargeC
  | .opSetRemap params => params.length == ops.counts.setRemap
  | .opStartLine params => params.length == ops.counts.startLine
  | .opDisplayOffset params => params.length == ops.counts.displayOffset
  | .opNormalDisplay params => params.length == ops.counts.normalDisplay
  | .opInvertDisplay params => params.length == ops.counts.invertDisplay
  | .opSetMultiplex params => params.length == ops.counts.setMultiplex
  | .opSetMaster params => params.length == ops.counts.setMaster
  | .opDisplayOff params => params.length == ops.counts.displayOff
  | .opDisplayOn params => params.length == ops.counts.displayOn
  | .opPowerMode params => params.length == ops.counts.powerMode
  | .opPhaseAdjust params => params.length == ops.counts.phaseAdjust
  | .opClockDiv params => params.length == ops.counts.clockDiv
  | .opPrechargeLevel params => params.length == ops.counts.prechargeLevel
  | .opVcomh params => params.length == ops.counts.vcomh

end Sys2Proof
end

