-- ==== Sys2Proof/Decode.lean ====
section
/-! DEFINITION. The two decoders, total on any bytes, and the encoder after them. `decodeRequest` reads one host
packet from the request stream (30_encoding.md R80 to R93); `decodeWire` reads one panel command from a run of
command bytes (R98, R99), which is the streamer's and the panel's view. -/

namespace Sys2Proof

open Sys2Proof.Machine (hi lo half rgb565 defaultOpcodes)

/-- Why no instruction can be read. -/
inductive DecodeError where
  /-- The bytes end inside a packet or command: the block waits (30 R91). -/
  | incomplete
  /-- The byte is no panel command's opcode (30 R99). -/
  | unknownCommand (b : Byte)
  deriving DecidableEq, Repr

/-- The request opcodes (30 R81). -/
def opReset : Byte := 0x01#8
def opClear : Byte := 0x02#8
def opRender : Byte := 0x03#8
def opLine : Byte := 0x04#8
def opChar : Byte := 0x05#8
def opString : Byte := 0x06#8
def opScroll : Byte := 0x07#8
def opInvert : Byte := 0x08#8

/-- `PacketLength(b0, b7)`, total on any first byte (30 R93). -/
def packetLength (b0 b7 : Byte) : Nat :=
  if b0 = opReset then 1
  else if b0 = opClear then 3
  else if b0 = opRender then 5
  else if b0 = opLine then 11
  else if b0 = opChar then 8
  else if b0 = opString then 8 + b7.toNat
  else if b0 = opScroll then 5
  else if b0 = opInvert then 2
  else 1

/-- A `bool8` operand: false for 0x00, true for every other value (30 R82). -/
def bool8 (b : Byte) : Bool := b != 0x00#8

/-- A `bool8` operand as the assembler writes it: 1 is the byte 0x01 (30 R95). -/
def ofBool8 (v : Bool) : Byte := if v then 0x01#8 else 0x00#8

/-- Operands of CLEAR after byte 0 (30 R84). -/
def decodeClear : List Byte → Except DecodeError (Instr × List Byte)
  | c1 :: c0 :: rest => .ok (.clear (half c1 c0), rest)
  | _ => .error .incomplete

/-- Operands of RENDER after byte 0 (30 R85). -/
def decodeRender : List Byte → Except DecodeError (Instr × List Byte)
  | sc :: ec :: sr :: er :: rest => .ok (.render sc ec sr er, rest)
  | _ => .error .incomplete

/-- Operands of LINE after byte 0 (30 R86). -/
def decodeLine : List Byte → Except DecodeError (Instr × List Byte)
  | a1 :: a0 :: b1 :: b0 :: c1 :: c0 :: d1 :: d0 :: k1 :: k0 :: rest =>
    .ok (.line (half a1 a0) (half b1 b0) (half c1 c0) (half d1 d0) (half k1 k0), rest)
  | _ => .error .incomplete

/-- Operands of CHAR after byte 0 (30 R87). -/
def decodeChar : List Byte → Except DecodeError (Instr × List Byte)
  | x1 :: x0 :: y1 :: y0 :: ch :: k1 :: k0 :: rest =>
    .ok (.char (half x1 x0) (half y1 y0) ch (half k1 k0), rest)
  | _ => .error .incomplete

/-- Operands of STRING after byte 0: the text is the `len` bytes after the length byte (30 R88). -/
def decodeString : List Byte → Except DecodeError (Instr × List Byte)
  | x1 :: x0 :: y1 :: y0 :: k1 :: k0 :: len :: rest =>
    if len.toNat ≤ rest.length then
      .ok (.string (half x1 x0) (half y1 y0) (half k1 k0) (rest.take len.toNat), rest.drop len.toNat)
    else .error .incomplete
  | _ => .error .incomplete

/-- Operands of SCROLL after byte 0 (30 R89). -/
def decodeScroll : List Byte → Except DecodeError (Instr × List Byte)
  | h :: v :: t :: e :: rest => .ok (.scroll h v t (bool8 e), rest)
  | _ => .error .incomplete

/-- Operand of INVERT after byte 0 (30 R90). -/
def decodeInvert : List Byte → Except DecodeError (Instr × List Byte)
  | v :: rest => .ok (.invert (bool8 v), rest)
  | _ => .error .incomplete

/-- One packet from the front of the request stream and the bytes after it, or `incomplete` (30 R80, R81, R91,
R92). A reserved byte 0 is a packet of its own. -/
def decodeRequest : List Byte → Except DecodeError (Instr × List Byte)
  | [] => .error .incomplete
  | b0 :: bs =>
    if b0 = opReset then .ok (.reset, bs)
    else if b0 = opClear then decodeClear bs
    else if b0 = opRender then decodeRender bs
    else if b0 = opLine then decodeLine bs
    else if b0 = opChar then decodeChar bs
    else if b0 = opString then decodeString bs
    else if b0 = opScroll then decodeScroll bs
    else if b0 = opInvert then decodeInvert bs
    else .ok (.reserved b0, bs)

/-- The opcode byte of a panel command under the implementation's opcode table (30 R99). -/
def Opcodes.byte (ops : Opcodes) : WireOp → Byte
  | .setColumn => ops.setColumn
  | .setRow => ops.setRow
  | .scrollSetup => ops.scrollSetup
  | .scrollOff => ops.scrollOff
  | .scrollOn => ops.scrollOn
  | .contrastA => ops.contrastA
  | .contrastB => ops.contrastB
  | .contrastC => ops.contrastC
  | .masterCurrent => ops.masterCurrent
  | .prechargeA => ops.prechargeA
  | .prechargeB => ops.prechargeB
  | .prechargeC => ops.prechargeC
  | .setRemap => ops.setRemap
  | .startLine => ops.startLine
  | .displayOffset => ops.displayOffset
  | .normalDisplay => ops.normalDisplay
  | .invertDisplay => ops.invertDisplay
  | .setMultiplex => ops.setMultiplex
  | .setMaster => ops.setMaster
  | .displayOff => ops.displayOff
  | .displayOn => ops.displayOn
  | .powerMode => ops.powerMode
  | .phaseAdjust => ops.phaseAdjust
  | .clockDiv => ops.clockDiv
  | .prechargeLevel => ops.prechargeLevel
  | .vcomh => ops.vcomh

/-- How many parameter bytes a panel command has: the source gives three of the numbers, and the others are open
parameters (30 R98, R99). -/
def Opcodes.params (ops : Opcodes) : WireOp → Nat
  | .setColumn => 2
  | .setRow => 2
  | .scrollSetup => 5
  | .scrollOff => ops.counts.scrollOff
  | .scrollOn => ops.counts.scrollOn
  | .contrastA => ops.counts.contrastA
  | .contrastB => ops.counts.contrastB
  | .contrastC => ops.counts.contrastC
  | .masterCurrent => ops.counts.masterCurrent
  | .prechargeA => ops.counts.prechargeA
  | .prechargeB => ops.counts.prechargeB
  | .prechargeC => ops.counts.prechargeC
  | .setRemap => ops.counts.setRemap
  | .startLine => ops.counts.startLine
  | .displayOffset => ops.counts.displayOffset
  | .normalDisplay => ops.counts.normalDisplay
  | .invertDisplay => ops.counts.invertDisplay
  | .setMultiplex => ops.counts.setMultiplex
  | .setMaster => ops.counts.setMaster
  | .displayOff => ops.counts.displayOff
  | .displayOn => ops.counts.displayOn
  | .powerMode => ops.counts.powerMode
  | .phaseAdjust => ops.counts.phaseAdjust
  | .clockDiv => ops.counts.clockDiv
  | .prechargeLevel => ops.counts.prechargeLevel
  | .vcomh => ops.counts.vcomh

/-- The 26 panel commands in the order of 30 R99. -/
def WireOp.all : List WireOp :=
  [ .setColumn, .setRow, .scrollSetup, .scrollOff, .scrollOn, .contrastA, .contrastB,
    .contrastC, .masterCurrent, .prechargeA, .prechargeB, .prechargeC, .setRemap, .startLine,
    .displayOffset, .normalDisplay, .invertDisplay, .setMultiplex, .setMaster, .displayOff, .displayOn,
    .powerMode, .phaseAdjust, .clockDiv, .prechargeLevel, .vcomh ]

/-- The panel command an instruction stands for, with its parameter bytes in wire order (30 R98, R99); none for
requests. -/
def Instr.wire? : Instr → Option (WireOp × List Byte)
  | .opSetColumn first last => some (.setColumn, [first, last])
  | .opSetRow first last => some (.setRow, [first, last])
  | .opScrollSetup hOffset startRow numRows vOffset interval => some (.scrollSetup, [hOffset, startRow, numRows, vOffset, interval])
  | .opScrollOff params => some (.scrollOff, params)
  | .opScrollOn params => some (.scrollOn, params)
  | .opContrastA params => some (.contrastA, params)
  | .opContrastB params => some (.contrastB, params)
  | .opContrastC params => some (.contrastC, params)
  | .opMasterCurrent params => some (.masterCurrent, params)
  | .opPrechargeA params => some (.prechargeA, params)
  | .opPrechargeB params => some (.prechargeB, params)
  | .opPrechargeC params => some (.prechargeC, params)
  | .opSetRemap params => some (.setRemap, params)
  | .opStartLine params => some (.startLine, params)
  | .opDisplayOffset params => some (.displayOffset, params)
  | .opNormalDisplay params => some (.normalDisplay, params)
  | .opInvertDisplay params => some (.invertDisplay, params)
  | .opSetMultiplex params => some (.setMultiplex, params)
  | .opSetMaster params => some (.setMaster, params)
  | .opDisplayOff params => some (.displayOff, params)
  | .opDisplayOn params => some (.displayOn, params)
  | .opPowerMode params => some (.powerMode, params)
  | .opPhaseAdjust params => some (.phaseAdjust, params)
  | .opClockDiv params => some (.clockDiv, params)
  | .opPrechargeLevel params => some (.prechargeLevel, params)
  | .opVcomh params => some (.vcomh, params)
  | .reset | .clear _ | .render _ _ _ _ | .line _ _ _ _ _ | .char _ _ _ _ | .string _ _ _ _ => none
  | .scroll _ _ _ _ | .invert _ | .reserved _ | .renderAll | .clearRgb _ _ _ => none

/-- A command with two parameter bytes. -/
def wire2 (f : Byte → Byte → Instr) : List Byte → Option Instr
  | [v, w] => some (f v w)
  | _ => none

/-- A command with five parameter bytes. -/
def wire5 (f : Byte → Byte → Byte → Byte → Byte → Instr) : List Byte → Option Instr
  | [p1, p2, p3, p4, p5] => some (f p1 p2 p3 p4 p5)
  | _ => none

/-- The instruction of a panel command with the given parameter bytes; none where the source gives the command another
number of them (30 R98, R99). -/
def WireOp.instr : WireOp → List Byte → Option Instr
  | .setColumn, ps => wire2 .opSetColumn ps
  | .setRow, ps => wire2 .opSetRow ps
  | .scrollSetup, ps => wire5 .opScrollSetup ps
  | .scrollOff, ps => some (.opScrollOff ps)
  | .scrollOn, ps => some (.opScrollOn ps)
  | .contrastA, ps => some (.opContrastA ps)
  | .contrastB, ps => some (.opContrastB ps)
  | .contrastC, ps => some (.opContrastC ps)
  | .masterCurrent, ps => some (.opMasterCurrent ps)
  | .prechargeA, ps => some (.opPrechargeA ps)
  | .prechargeB, ps => some (.opPrechargeB ps)
  | .prechargeC, ps => some (.opPrechargeC ps)
  | .setRemap, ps => some (.opSetRemap ps)
  | .startLine, ps => some (.opStartLine ps)
  | .displayOffset, ps => some (.opDisplayOffset ps)
  | .normalDisplay, ps => some (.opNormalDisplay ps)
  | .invertDisplay, ps => some (.opInvertDisplay ps)
  | .setMultiplex, ps => some (.opSetMultiplex ps)
  | .setMaster, ps => some (.opSetMaster ps)
  | .displayOff, ps => some (.opDisplayOff ps)
  | .displayOn, ps => some (.opDisplayOn ps)
  | .powerMode, ps => some (.opPowerMode ps)
  | .phaseAdjust, ps => some (.opPhaseAdjust ps)
  | .clockDiv, ps => some (.opClockDiv ps)
  | .prechargeLevel, ps => some (.opPrechargeLevel ps)
  | .vcomh, ps => some (.opVcomh ps)

/-- The command whose opcode the byte is (30 R99). -/
def Opcodes.find (ops : Opcodes) (b : Byte) : Option WireOp := WireOp.all.find? fun o => ops.byte o == b

/-- One panel command from the front of a run of command bytes and the bytes after it (30 R98, R99). -/
def decodeWire (ops : Opcodes) : List Byte → Except DecodeError (Instr × List Byte)
  | [] => .error .incomplete
  | b :: bs =>
    match ops.find b with
    | none => .error (.unknownCommand b)
    | some o =>
      if ops.params o ≤ bs.length then
        match o.instr (bs.take (ops.params o)) with
        | some i => .ok (i, bs.drop (ops.params o))
        | none => .error .incomplete
      else .error .incomplete

/-- The high and the low byte of a 16-bit operand, high byte first (20 R56). -/
def beBytes (v : BitVec 16) : List Byte := [hi v, lo v]

/-- The command bytes of a panel command: opcode, then parameters in order (30 R98). -/
def WireOp.bytes (ops : Opcodes) (o : WireOp) (ps : List Byte) : List Byte := ops.byte o :: ps

/-- The bytes of a well-formed instruction: a request's packet (30 R83 to R90, R92), a pseudo-request's expansion
(R96), a panel command's bytes (R98). -/
def encode (ops : Opcodes) : Instr → List Byte
  | .reset => [opReset]
  | .clear color => opClear :: beBytes color
  | .render sc ec sr er => [opRender, sc, ec, sr, er]
  | .line x0 y0 x1 y1 color =>
    opLine :: (beBytes x0 ++ beBytes y0 ++ beBytes x1 ++ beBytes y1 ++ beBytes color)
  | .char x y ch color => opChar :: (beBytes x ++ beBytes y ++ [ch] ++ beBytes color)
  | .string x y color text =>
    opString :: (beBytes x ++ beBytes y ++ beBytes color ++ [BitVec.ofNat 8 text.length] ++ text)
  | .scroll h v t enable => [opScroll, h, v, t, ofBool8 enable]
  | .invert on => [opInvert, ofBool8 on]
  | .reserved b0 => [b0]
  | .renderAll => [opRender, 0x00#8, 0x5F#8, 0x00#8, 0x3F#8]
  | .clearRgb r g b => opClear :: beBytes (rgb565 r g b)
  | .opSetColumn first last => WireOp.bytes ops .setColumn [first, last]
  | .opSetRow first last => WireOp.bytes ops .setRow [first, last]
  | .opScrollSetup hOffset startRow numRows vOffset interval => WireOp.bytes ops .scrollSetup [hOffset, startRow, numRows, vOffset, interval]
  | .opScrollOff params => WireOp.bytes ops .scrollOff params
  | .opScrollOn params => WireOp.bytes ops .scrollOn params
  | .opContrastA params => WireOp.bytes ops .contrastA params
  | .opContrastB params => WireOp.bytes ops .contrastB params
  | .opContrastC params => WireOp.bytes ops .contrastC params
  | .opMasterCurrent params => WireOp.bytes ops .masterCurrent params
  | .opPrechargeA params => WireOp.bytes ops .prechargeA params
  | .opPrechargeB params => WireOp.bytes ops .prechargeB params
  | .opPrechargeC params => WireOp.bytes ops .prechargeC params
  | .opSetRemap params => WireOp.bytes ops .setRemap params
  | .opStartLine params => WireOp.bytes ops .startLine params
  | .opDisplayOffset params => WireOp.bytes ops .displayOffset params
  | .opNormalDisplay params => WireOp.bytes ops .normalDisplay params
  | .opInvertDisplay params => WireOp.bytes ops .invertDisplay params
  | .opSetMultiplex params => WireOp.bytes ops .setMultiplex params
  | .opSetMaster params => WireOp.bytes ops .setMaster params
  | .opDisplayOff params => WireOp.bytes ops .displayOff params
  | .opDisplayOn params => WireOp.bytes ops .displayOn params
  | .opPowerMode params => WireOp.bytes ops .powerMode params
  | .opPhaseAdjust params => WireOp.bytes ops .phaseAdjust params
  | .opClockDiv params => WireOp.bytes ops .clockDiv params
  | .opPrechargeLevel params => WireOp.bytes ops .prechargeLevel params
  | .opVcomh params => WireOp.bytes ops .vcomh params

/-- What a pseudo-request abbreviates; every other instruction is itself (30 R96). -/
def Instr.expand : Instr → Instr
  | .renderAll => .render 0x00#8 0x5F#8 0x00#8 0x3F#8
  | .clearRgb r g b => .clear (rgb565 r g b)
  | i => i

/-- No two panel commands have the same opcode, as in the default table (30 R99). -/
abbrev Opcodes.Distinct (ops : Opcodes) : Prop := (WireOp.all.map ops.byte).Nodup

/-- Bytes `k`, `k + 1`, ... of a number, byte 0 least significant. -/
def bytesFrom (w k : Nat) : Nat → List Byte
  | 0 => []
  | n + 1 => BitVec.ofNat 8 (w >>> (8 * k)) :: bytesFrom w (k + 1) n

/-- The bytes of a table word: `nbits` bits of `w`, first byte least significant, zeros above, as many as the packet
its first and eighth byte begin takes, and never fewer than eight, which holds every panel command of the default
table (30 R93, R98). -/
def tableBytes (nbits w : Nat) : List Byte :=
  let v := w % 2 ^ nbits
  bytesFrom v 0 (max 8 (packetLength (BitVec.ofNat 8 v) (BitVec.ofNat 8 (v >>> 56))))

/-- Which of the two decoders reads a table word: the request decoder where byte 0 names a request, the wire
decoder where it is a default panel opcode, and the request decoder, which answers `reserved`, for every other byte
(log entry 14). -/
def decodeTableBytes (bs : List Byte) : Except DecodeError (Instr × List Byte) :=
  match bs with
  | [] => .error .incomplete
  | b0 :: _ =>
    if isReservedByte b0 then
      match decodeWire defaultOpcodes bs with
      | .ok r => .ok r
      | .error _ => decodeRequest bs
    else decodeRequest bs

/-- The instruction the decoders read from the opcode table's word `w` of `nbits` bits. -/
def decodeTableWord (nbits w : Nat) : Option Instr :=
  match decodeTableBytes (tableBytes nbits w) with
  | .ok (i, _) => some i
  | .error _ => none

end Sys2Proof
end

