-- ==== Sys2Proof/Machine/Wire.lean ====
section
/-! DEFINITION. What no host can issue or may issue: a reserved byte 0 (30_encoding.md R92, 60_exceptions.md R264),
and the wire commands, which the streamer executes for RESET, CLEAR, RENDER, SCROLL and INVERT (30 R98, R99,
41_command_channel.md R130, R131). -/

namespace Sys2Proof.Machine

/-- A reserved byte 0: IllegalRequest, which halts the block; a halted block takes none (30 R92, 60 R264). -/
def execReserved (_b0 : Byte) (s : State) : Host.Outcome State Fault Refusal :=
  .next (if s.halted then s else raise .opcode s)

/-- The sub-cause of a failing command byte: RESET sends its program while RSTATE is not Ready, every other sender
has tested that it is (60 R262, 46 R237). DEDUCED, log entry 9. -/
def wireFault (s : State) : FaultKind := if s.rstate = .ready then .command else .init

/-- The streamer sends one panel command: the opcode, then each parameter, every byte in its own select cycle
(30 R98, 41 R131). A halted block sends nothing (60 R266). -/
def wireCommand (o : WireOp) (ps : List Byte) (s : State) : State :=
  if s.halted then s else sendSequence (wireFault s) (WireOp.bytes s.cfg.ops o ps) s

/-- OP_SETCOLUMN: set-column-address (30 R99). -/
def execOpSetColumn (first last : Byte) (s : State) : Host.Outcome State Fault Refusal :=
  .next (wireCommand .setColumn [first, last] s)

/-- OP_SETROW: set-row-address (30 R99). -/
def execOpSetRow (first last : Byte) (s : State) : Host.Outcome State Fault Refusal :=
  .next (wireCommand .setRow [first, last] s)

/-- OP_SCROLLSETUP: scroll setup (30 R99). -/
def execOpScrollSetup (hOffset startRow numRows vOffset interval : Byte) (s : State) : Host.Outcome State Fault Refusal :=
  .next (wireCommand .scrollSetup [hOffset, startRow, numRows, vOffset, interval] s)

/-- OP_SCROLLOFF: scroll deactivate (30 R99). -/
def execOpScrollOff (s : State) (params : List Byte := []) : Host.Outcome State Fault Refusal :=
  .next (wireCommand .scrollOff params s)

/-- OP_SCROLLON: scroll activate (30 R99). -/
def execOpScrollOn (s : State) (params : List Byte := []) : Host.Outcome State Fault Refusal :=
  .next (wireCommand .scrollOn params s)

/-- OP_CONTRASTA: contrast register, first channel (30 R99). -/
def execOpContrastA (params : List Byte) (s : State) : Host.Outcome State Fault Refusal :=
  .next (wireCommand .contrastA params s)

/-- OP_CONTRASTB: contrast register, second channel (30 R99). -/
def execOpContrastB (params : List Byte) (s : State) : Host.Outcome State Fault Refusal :=
  .next (wireCommand .contrastB params s)

/-- OP_CONTRASTC: contrast register, third channel (30 R99). -/
def execOpContrastC (params : List Byte) (s : State) : Host.Outcome State Fault Refusal :=
  .next (wireCommand .contrastC params s)

/-- OP_MASTERCURRENT: master current (30 R99). -/
def execOpMasterCurrent (params : List Byte) (s : State) : Host.Outcome State Fault Refusal :=
  .next (wireCommand .masterCurrent params s)

/-- OP_PRECHARGEA: precharge-speed register, first (30 R99). -/
def execOpPrechargeA (params : List Byte) (s : State) : Host.Outcome State Fault Refusal :=
  .next (wireCommand .prechargeA params s)

/-- OP_PRECHARGEB: precharge-speed register, second (30 R99). -/
def execOpPrechargeB (params : List Byte) (s : State) : Host.Outcome State Fault Refusal :=
  .next (wireCommand .prechargeB params s)

/-- OP_PRECHARGEC: precharge-speed register, third (30 R99). -/
def execOpPrechargeC (params : List Byte) (s : State) : Host.Outcome State Fault Refusal :=
  .next (wireCommand .prechargeC params s)

/-- OP_SETREMAP: color-depth remap (30 R99). -/
def execOpSetRemap (params : List Byte) (s : State) : Host.Outcome State Fault Refusal :=
  .next (wireCommand .setRemap params s)

/-- OP_STARTLINE: start line (30 R99). -/
def execOpStartLine (params : List Byte) (s : State) : Host.Outcome State Fault Refusal :=
  .next (wireCommand .startLine params s)

/-- OP_DISPLAYOFFSET: display offset (30 R99). -/
def execOpDisplayOffset (params : List Byte) (s : State) : Host.Outcome State Fault Refusal :=
  .next (wireCommand .displayOffset params s)

/-- OP_NORMALDISPLAY: normal display (30 R99). -/
def execOpNormalDisplay (s : State) (params : List Byte := []) : Host.Outcome State Fault Refusal :=
  .next (wireCommand .normalDisplay params s)

/-- OP_INVERTDISPLAY: invert display (30 R99). -/
def execOpInvertDisplay (s : State) (params : List Byte := []) : Host.Outcome State Fault Refusal :=
  .next (wireCommand .invertDisplay params s)

/-- OP_SETMULTIPLEX: multiplex ratio (30 R99). -/
def execOpSetMultiplex (params : List Byte) (s : State) : Host.Outcome State Fault Refusal :=
  .next (wireCommand .setMultiplex params s)

/-- OP_SETMASTER: master configuration (30 R99). -/
def execOpSetMaster (params : List Byte) (s : State) : Host.Outcome State Fault Refusal :=
  .next (wireCommand .setMaster params s)

/-- OP_DISPLAYOFF: display off (30 R99). -/
def execOpDisplayOff (s : State) (params : List Byte := []) : Host.Outcome State Fault Refusal :=
  .next (wireCommand .displayOff params s)

/-- OP_DISPLAYON: display-on-normal (30 R99). -/
def execOpDisplayOn (s : State) (params : List Byte := []) : Host.Outcome State Fault Refusal :=
  .next (wireCommand .displayOn params s)

/-- OP_POWERMODE: power-save (30 R99). -/
def execOpPowerMode (params : List Byte) (s : State) : Host.Outcome State Fault Refusal :=
  .next (wireCommand .powerMode params s)

/-- OP_PHASEADJUST: phase-adjust (30 R99). -/
def execOpPhaseAdjust (params : List Byte) (s : State) : Host.Outcome State Fault Refusal :=
  .next (wireCommand .phaseAdjust params s)

/-- OP_CLOCKDIV: clock divider (30 R99). -/
def execOpClockDiv (params : List Byte) (s : State) : Host.Outcome State Fault Refusal :=
  .next (wireCommand .clockDiv params s)

/-- OP_PRECHARGELEVEL: precharge level (30 R99). -/
def execOpPrechargeLevel (params : List Byte) (s : State) : Host.Outcome State Fault Refusal :=
  .next (wireCommand .prechargeLevel params s)

/-- OP_VCOMH: VCOMH level (30 R99). -/
def execOpVcomh (params : List Byte) (s : State) : Host.Outcome State Fault Refusal :=
  .next (wireCommand .vcomh params s)

end Sys2Proof.Machine
end

