-- ==== Sys2Proof/Machine/Dispatch.lean ====
section
/-! DEFINITION. One arm per instruction, each a direct call of its meaning. -/

namespace Sys2Proof.Machine

def exec (i : Instr) (s : State) : Host.Outcome State Fault Refusal :=
  match i with
  | .reset => Sys2Proof.Machine.execReset s
  | .clear color => Sys2Proof.Machine.execClear color s
  | .render startCol endCol startRow endRow => Sys2Proof.Machine.execRender startCol endCol startRow endRow s
  | .line x0 y0 x1 y1 color => Sys2Proof.Machine.execLine x0 y0 x1 y1 color s
  | .char x y ch color => Sys2Proof.Machine.execChar x y ch color s
  | .string x y color text => Sys2Proof.Machine.execString x y color text s
  | .scroll hOffset vOffset interval enable => Sys2Proof.Machine.execScroll hOffset vOffset interval enable s
  | .invert on => Sys2Proof.Machine.execInvert on s
  | .reserved b0 => Sys2Proof.Machine.execReserved b0 s
  | .renderAll => Sys2Proof.Machine.execRenderAll s
  | .clearRgb r g b => Sys2Proof.Machine.execClearRgb r g b s
  | .opSetColumn first last => Sys2Proof.Machine.execOpSetColumn first last s
  | .opSetRow first last => Sys2Proof.Machine.execOpSetRow first last s
  | .opScrollSetup hOffset startRow numRows vOffset interval => Sys2Proof.Machine.execOpScrollSetup hOffset startRow numRows vOffset interval s
  | .opScrollOff params => Sys2Proof.Machine.execOpScrollOff s params
  | .opScrollOn params => Sys2Proof.Machine.execOpScrollOn s params
  | .opContrastA params => Sys2Proof.Machine.execOpContrastA params s
  | .opContrastB params => Sys2Proof.Machine.execOpContrastB params s
  | .opContrastC params => Sys2Proof.Machine.execOpContrastC params s
  | .opMasterCurrent params => Sys2Proof.Machine.execOpMasterCurrent params s
  | .opPrechargeA params => Sys2Proof.Machine.execOpPrechargeA params s
  | .opPrechargeB params => Sys2Proof.Machine.execOpPrechargeB params s
  | .opPrechargeC params => Sys2Proof.Machine.execOpPrechargeC params s
  | .opSetRemap params => Sys2Proof.Machine.execOpSetRemap params s
  | .opStartLine params => Sys2Proof.Machine.execOpStartLine params s
  | .opDisplayOffset params => Sys2Proof.Machine.execOpDisplayOffset params s
  | .opNormalDisplay params => Sys2Proof.Machine.execOpNormalDisplay s params
  | .opInvertDisplay params => Sys2Proof.Machine.execOpInvertDisplay s params
  | .opSetMultiplex params => Sys2Proof.Machine.execOpSetMultiplex params s
  | .opSetMaster params => Sys2Proof.Machine.execOpSetMaster params s
  | .opDisplayOff params => Sys2Proof.Machine.execOpDisplayOff s params
  | .opDisplayOn params => Sys2Proof.Machine.execOpDisplayOn s params
  | .opPowerMode params => Sys2Proof.Machine.execOpPowerMode params s
  | .opPhaseAdjust params => Sys2Proof.Machine.execOpPhaseAdjust params s
  | .opClockDiv params => Sys2Proof.Machine.execOpClockDiv params s
  | .opPrechargeLevel params => Sys2Proof.Machine.execOpPrechargeLevel params s
  | .opVcomh params => Sys2Proof.Machine.execOpVcomh params s

end Sys2Proof.Machine
end

