-- ==== Sys2Proof/Machine/Fetch.lean ====
section
/-! DEFINITION. What the block does next: the power-on signal, the halted state, the streamer's pending command, the
next packet of the request stream, or a wait (30_encoding.md R91, 60_exceptions.md R266, 70_reset_and_hazards.md
R300, R304). -/

namespace Sys2Proof.Machine

/-- What the block does next. -/
inductive Fetched where
  /-- An instruction has been read; the state has its bytes taken. -/
  | run (i : Instr) (s : State)
  /-- No instruction runs; this is the next state. -/
  | idle (s : State)
  /-- A request is half done and its operands are unknown (log entry 10). -/
  | lost

/-- The streamer goes on with the sequence being sent: the next panel command, or one byte that begins none, sent
as the command byte it is (41 R130, R131, log entries 9 and 20). -/
def fetchWire (s : State) : Fetched :=
  match decodeWire s.cfg.ops s.pending with
  | .ok (i, rest) => .run i { s with pending := rest }
  | .error _ =>
    match s.pending with
    | [] => .lost
    | b :: bs => .idle (sendCommand (if s.rstate = .ready then .command else .init) b { s with pending := bs })

/-- The next packet, once it is whole; until then the block waits (30 R91). -/
def fetchRequest (s : State) : Fetched :=
  match decodeRequest s.requests with
  | .ok (i, rest) => .run i { s with requests := rest }
  | .error _ => .idle s

/-- What the block does next (30 R91, 60 R266, 70 R300). -/
def fetch (s : State) : Fetched :=
  if s.powerOnSignal then .idle (powerOn s)
  else if s.halted then .idle s
  else if s.busy then fetchWire s
  else fetchRequest s

/-- The state with this instruction where `fetch` reads the next one: a request's packet at the front of the request
stream of an idle block, a panel command at the front of the bytes a busy streamer still has to send. -/
def placeInstr (i : Instr) (s : State) : State :=
  let live := { s with fault := { kind := none, rqi := 0 }, powerOnSignal := false }
  match i.wire? with
  | some (o, ps) => { live with busy := true, pending := WireOp.bytes s.cfg.ops o ps ++ s.pending }
  | none => { live with busy := false, requests := encode s.cfg.ops i ++ s.requests }

end Sys2Proof.Machine
end

