-- ==== Sys2Proof/Machine/Step.lean ====
section
/-! DEFINITION. One step of the block: what `fetch` says comes next, and the instruction it read executed. -/

namespace Sys2Proof.Machine

/-- One step (30_encoding.md R91, 20_memory.md R60). -/
def step (s : State) : Host.Outcome State Fault Refusal :=
  match fetch s with
  | .run i s' => exec i s'
  | .idle s' => .next s'
  | .lost => .fault .requestNotHeld

/-- The state with the opcode table's word `w` of `nbits` bits where the next step fetches (log entry 13). -/
def State.withFetchWord (s : State) (nbits w : Nat) : State :=
  match decodeTableWord nbits w with
  | some i => placeInstr i s
  | none => s

end Sys2Proof.Machine
end

