-- ==== Sys2Proof/Machine/Flags.lean ====
section
/-! DEFINITION. The block has no condition codes (10_state.md R29). This file holds the codes of its status
registers as the host reads them (10 R23, R25, R26, 60_exceptions.md R260) and the electrical level of its lines
(10 R24). -/

namespace Sys2Proof.Machine

/-- RSTATE's 2-bit code (10 R23). -/
def RState.code : RState → BitVec 2
  | .idle => 0#2
  | .resetAsserted => 1#2
  | .resetReleasedSettling => 2#2
  | .ready => 3#2

/-- FAULT.cause of a sub-cause (60 R260). -/
def FaultKind.cause : FaultKind → BitVec 2
  | .coord => 1#2
  | .area => 1#2
  | .order => 1#2
  | .plot => 1#2
  | .command => 2#2
  | .burst => 2#2
  | .init => 2#2
  | .opcode => 3#2

/-- FAULT.sub of a sub-cause (60 R260). -/
def FaultKind.sub : FaultKind → BitVec 4
  | .coord => 1#4
  | .area => 2#4
  | .order => 3#4
  | .plot => 4#4
  | .command => 1#4
  | .burst => 2#4
  | .init => 3#4
  | .opcode => 1#4

/-- FAULT.cause, 0 where no fault has been raised (10 R25). -/
def FaultReg.cause (f : FaultReg) : BitVec 2 :=
  match f.kind with
  | none => 0#2
  | some k => k.cause

/-- FAULT.sub, 0 where no fault has been raised (10 R25). -/
def FaultReg.sub (f : FaultReg) : BitVec 4 :=
  match f.kind with
  | none => 0#4
  | some k => k.sub

/-- The 6-bit image of FAULT, `{sub[3:0], cause[1:0]}` (10 R25). -/
def FaultReg.image (f : FaultReg) : BitVec 6 := f.sub ++ f.cause

/-- What the host reads when it polls (70 R304). -/
structure HostStatus where
  busy : Bool
  faultImage : BitVec 6
  faultRqi : Nat
  rstate : BitVec 2
  deriving DecidableEq, Repr

/-- A poll of BUSY, FAULT and RSTATE (70 R304). -/
def State.hostStatus (s : State) : HostStatus :=
  { busy := s.busy, faultImage := s.fault.image, faultRqi := s.fault.rqi, rstate := s.rstate.code }

/-- The other electrical level. -/
def Level.opposite : Level → Level
  | .low => .high
  | .high => .low

/-- The electrical level of the bus-select line (10 R24, POL_CS). -/
def State.csLevel (s : State) : Level :=
  match s.cs with
  | .asserted => s.cfg.polCS
  | .deasserted => Level.opposite s.cfg.polCS

/-- The electrical level of the command/data line (10 R24, POL_DC). -/
def State.dcLevel (s : State) : Level :=
  match s.dc with
  | .command => s.cfg.polDC
  | .data => Level.opposite s.cfg.polDC

/-- The electrical level of the reset line (10 R24, POL_RES). -/
def State.resLevel (s : State) : Level :=
  match s.res with
  | .asserted => s.cfg.polRES
  | .deasserted => Level.opposite s.cfg.polRES

end Sys2Proof.Machine
end

