-- ==== Sys2Proof/Safety.lean ====
section
/-! DEFINITION. What claims are about: the end of a run (70_reset_and_hazards.md R305), the events of the channel's
operations (41_command_channel.md R130 to R132, 42_reset_sequencer.md R151 to R153), the discipline of the bus
(41 R134, R135), the panel's view of the trace (30_encoding.md R104), and the invariant of the block. -/

namespace Sys2Proof.Safety

open Sys2Proof.Machine

/-- A run of a program of `packets` packets has ended successfully: nothing is running, no fault, and RQI says that
every packet's request has completed (70 R305). A halted state is never success. -/
def success (packets : Nat) (s : State) : Bool := !s.busy && !s.halted && s.rqi == packets

/-- A run has ended unsuccessfully: FAULT.cause is not 0, and nothing more happens (70 R305). -/
def endedInFault (s : State) : Bool := s.halted

/-- Every one of the next `n` transfers is answered ok (41 R133). -/
abbrev txAllOk (s : State) (n : Nat) : Prop := ∀ k < n, s.txOk k = true

/-- The next `j` transfers are answered ok and the one after them fails (41 R133). -/
abbrev txFailsAt (s : State) (j : Nat) : Prop := txAllOk s j ∧ s.txOk j = false

/-- The five events of one command byte (30 R104, 41 R130). -/
def commandEvents (b : Byte) : List Event :=
  [.cs .asserted, .dc .command, .tx [b], .dc .data, .cs .deasserted]

/-- The events of a command sequence (41 R131). -/
def sequenceEvents (bs : List Byte) : List Event := bs.flatMap commandEvents

/-- The three events of a command byte whose transfer fails (41 R131). -/
def failedCommandEvents (b : Byte) : List Event := [.cs .asserted, .dc .command, .txFail [b]]

/-- The four events of a pixel burst (30 R104, 41 R132). -/
def burstEvents (bs : List Byte) : List Event := [.cs .asserted, .dc .data, .tx bs, .cs .deasserted]

/-- The three events of a pixel burst whose transfer fails (41 R132, R133). -/
def failedBurstEvents (bs : List Byte) : List Event := [.cs .asserted, .dc .data, .txFail bs]

/-- The seven events of the reset pulse (42 R151, R152, R153). -/
def pulseEvents : List Event :=
  [.res .deasserted, .cs .deasserted, .delay 5, .res .asserted, .delay 80, .res .deasserted, .delay 20]

/-- The three output lines as an observer of the trace knows them. -/
structure Lines where
  cs : Line
  dc : DcMode
  res : Line
  deriving DecidableEq, Repr

/-- The lines at power-on (10 R40). -/
def Lines.rest : Lines := { cs := .deasserted, dc := .data, res := .deasserted }

/-- The lines after an event (41 R137). -/
def Lines.after (l : Lines) : Event → Lines
  | .cs v => { l with cs := v }
  | .dc v => { l with dc := v }
  | .res v => { l with res := v }
  | .tx _ => l
  | .txFail _ => l
  | .delay _ => l

/-- The lines after a trace. -/
def Lines.afterAll (l : Lines) (es : List Event) : Lines := es.foldl Lines.after l

/-- The lines of a state. -/
def linesOf (s : State) : Lines := { cs := s.cs, dc := s.dc, res := s.res }

/-- What the select discipline allows as the next event (41 R134, R135, 70 R309): bus-select is asserted only when it is
deasserted; DC changes and transfers happen only under an asserted bus-select; a transfer carries at least one byte,
and exactly one in command-mode; the reset line and the waits are used only while the bus is deselected. -/
def Lines.allows (l : Lines) : Event → Bool
  | .cs .asserted => l.cs == .deasserted
  | .cs .deasserted => true
  | .dc _ => l.cs == .asserted
  | .res _ => l.cs == .deasserted
  | .tx bs => l.cs == .asserted && !bs.isEmpty && (l.dc == .data || bs.length == 1)
  | .txFail bs => l.cs == .asserted && !bs.isEmpty && (l.dc == .data || bs.length == 1)
  | .delay _ => l.cs == .deasserted

/-- A trace keeps the select discipline from given lines on (41 R134). -/
def framedFrom : Lines → List Event → Bool
  | _, [] => true
  | l, e :: es => l.allows e && framedFrom (l.after e) es

/-- What the panel can tell from the wire: command bytes and data bursts (30 R104). -/
inductive PanelItem where
  | command (b : Byte)
  | data (bs : List Byte)
  deriving DecidableEq, Repr

/-- The panel's view of a trace that starts with the given DC value (30 R104): a transfer is command bytes under
`DC(command)` and a burst under `DC(data)`; a failed transfer shows nothing certain. -/
def panelView : DcMode → List Event → List PanelItem
  | _, [] => []
  | _, .dc v :: es => panelView v es
  | .command, .tx bs :: es => bs.map .command ++ panelView .command es
  | .data, .tx bs :: es => .data bs :: panelView .data es
  | m, .cs _ :: es => panelView m es
  | m, .res _ :: es => panelView m es
  | m, .txFail _ :: es => panelView m es
  | m, .delay _ :: es => panelView m es

/-- The byte lists that may have left the block in an event: all of an ok transfer, any prefix of a failed one
(41 R133, log entry 17). -/
def mayHaveLeft : Event → List Byte → Prop
  | .tx bs, sent => sent = bs
  | .txFail bs, sent => sent <+: bs
  | _, sent => sent = []

/-- The state `s` after an instruction that used `n` transfers and appended the events `es`: the lines are what the
events leave, BUSY is 0, the engine registers are whatever they are in `t` (10 R31 to R33: unspecified), and
everything else is as in `s`; that the bytes left to send are as in `s` too is the model's choice (log entry 27). -/
def ended (s t : State) (n : Nat) (es : List Event) : State :=
  { s with
    cs := ((linesOf s).afterAll es).cs
    dc := ((linesOf s).afterAll es).dc
    res := ((linesOf s).afterAll es).res
    trace := s.trace ++ es
    busy := false
    txScript := s.txScript.drop n
    txCount := s.txCount + n
    line := t.line
    blit := t.blit
    streamer := t.streamer
    draws := t.draws }

/-- `t` is the state in which a request begun at `s` has completed: RQI has advanced (10 R28). -/
abbrev completedAs (s t : State) (n : Nat) (es : List Event) : Prop :=
  t = { ended s t n es with rqi := s.rqi + 1 }

/-- `t` is the state in which a request begun at `s` has written the framebuffer and completed. -/
abbrev drawnAs (s t : State) (n : Nat) (es : List Event) : Prop :=
  t = { ended s t n es with rqi := s.rqi + 1, fb := t.fb }

/-- `t` is the state in which an instruction begun at `s` has raised `k`: FAULT holds the cause and RQI, RQI has not
advanced, nothing is left to send (60 R266; log entries 25 and 27). -/
abbrev faultedAs (s t : State) (k : FaultKind) (n : Nat) (es : List Event) : Prop :=
  t = { ended s t n es with fault := { kind := some k, rqi := s.rqi }, pending := [] }

/-- The faults an instruction can raise (60 R265); RENDERALL's area is always valid. -/
def allowedFaults : Instr → List FaultKind
  | .reset => [.init]
  | .clear _ => [.order, .command, .burst]
  | .render _ _ _ _ => [.order, .area, .command, .burst]
  | .line _ _ _ _ _ => [.coord]
  | .char _ _ _ _ => []
  | .string _ _ _ _ => []
  | .scroll _ _ _ _ => [.order, .command]
  | .invert _ => [.order, .command]
  | .reserved _ => [.opcode]
  | .renderAll => [.order, .command, .burst]
  | .clearRgb _ _ _ => [.order, .command, .burst]
  | .opSetColumn _ _ | .opSetRow _ _ | .opScrollSetup _ _ _ _ _ | .opScrollOff _ | .opScrollOn _
  | .opContrastA _ | .opContrastB _ | .opContrastC _ | .opMasterCurrent _ | .opPrechargeA _ | .opPrechargeB _
  | .opPrechargeC _ | .opSetRemap _ | .opStartLine _ | .opDisplayOffset _ | .opNormalDisplay _
  | .opInvertDisplay _ | .opSetMultiplex _ | .opSetMaster _ | .opDisplayOff _ | .opDisplayOn _
  | .opPowerMode _ | .opPhaseAdjust _ | .opClockDiv _ | .opPrechargeLevel _ | .opVcomh _ => [.command, .init]

/-- The instruction is CLEAR to a colour, or CLEARRGB of channels that pack to it (30 R96). -/
abbrev clearsTo (i : Instr) (color : Color) : Prop :=
  i = .clear color ∨ ∃ r g b, i = .clearRgb r g b ∧ color = rgb565 r g b

/-- The instruction is RENDER of an area, or RENDERALL and the area is the full frame (30 R96). -/
abbrev rendersArea (i : Instr) (a : RenderArea) : Prop :=
  i = .render a.startCol a.endCol a.startRow a.endRow ∨ (i = .renderAll ∧ a = fullFrame)

/-- The requests that test RSTATE (46 R237). -/
def needsReady : Instr → Bool
  | .clear _ | .render _ _ _ _ | .scroll _ _ _ _ | .invert _ | .renderAll | .clearRgb _ _ _ => true
  | _ => false

/-- The instructions that may write the framebuffer (10 R37). -/
def mayWriteFb : Instr → Bool
  | .clear _ | .line _ _ _ _ _ | .char _ _ _ _ | .string _ _ _ _ | .clearRgb _ _ _ => true
  | _ => false

/-- The drawing requests (46 R237: exempt from the Ready test). -/
def draws : Instr → Bool
  | .line _ _ _ _ _ | .char _ _ _ _ | .string _ _ _ _ => true
  | _ => false

/-- The instructions that use neither the bus nor its lines (10 R37, 60 R264). -/
def leavesBus : Instr → Bool
  | .line _ _ _ _ _ | .char _ _ _ _ | .string _ _ _ _ | .reserved _ => true
  | _ => false

/-- The registers a line engine passes through from given registers on, one entry per plotted point. -/
def lineStates : Nat → LineRegs → List LineRegs
  | 0, _ => []
  | n + 1, r => r :: (if r.atEnd then [] else lineStates n r.step)

/-- The blank glyph's eight row bytes are zero (10 R22). -/
abbrev blankGlyph (rom : Vector (Vector Byte 8) 39) : Prop := ∀ r : Fin 8, rom[0][r] = 0x00#8

/-- The invariant of the block between steps. -/
structure BlockInv (s : State) : Prop where
  /-- The framebuffer's memory is canonical and lies in the 12288 bytes of FB (10 R21). -/
  memory : s.fb.wf = true
  /-- GLYPH_ROM's entry 0 is blank (10 R22). -/
  blank : blankGlyph s.glyphRom
  /-- The trace keeps the select discipline (41 R134). -/
  framed : framedFrom Lines.rest s.trace = true
  /-- The lines are what the trace's line events left (41 R137). -/
  lines : Lines.rest.afterAll s.trace = linesOf s
  /-- CS and DC rest between operations of a block that is not halted (41 R135). -/
  rest : s.halted = false → s.cs = .deasserted ∧ s.dc = .data
  /-- RES is deasserted between requests and after a fault (60 R268, 70 R303). -/
  resetLine : s.res = .deasserted
  /-- A halted block is not busy (60 R266). -/
  notBusy : s.halted = true → s.busy = false
  /-- Nothing is left to send while no request runs: the model's choice, where 10 R33 leaves the position
  unspecified (log entry 27). -/
  sent : s.busy = false → s.pending = []
  /-- RSTATE is never ResetAsserted between requests (10 R23, 42 R156). -/
  rstate : s.rstate ≠ .resetAsserted
  /-- RSTATE is Idle or Ready between requests of a block that is not halted (42 R156). -/
  settled : s.halted = false → s.busy = false → s.rstate = .idle ∨ s.rstate = .ready
  /-- PreconditionViolation(plot) is never raised (20 R53, 60 R260). -/
  noPlot : s.fault.kind ≠ some .plot
  /-- FAULT.rqi is 0 without a fault, and RQI with one, which no longer advances (10 R25, R28). -/
  faultRqi : s.fault.rqi = if s.halted then s.rqi else 0

end Sys2Proof.Safety
end

