-- ==== Sys2Proof/Certificates/Slice0/Obligations.lean ====
section
/-! DEFINITION. The statements about the block, each from the spec's numbered rules. -/

open Sys2Proof Sys2Proof.Machine Sys2Proof.Safety

/-! Encodings (30_encoding.md) -/

/-- R83 to R90, R92, R96: the request decoder reads back every well-formed request from its packet, whatever bytes
follow, and a pseudo-request as the request it abbreviates. -/
def Obligations.RequestDecodeOfEncode : Prop :=
  ∀ (ops : Opcodes) (i : Instr) (rest : List Byte), i.wellFormed ops = true → i.wire? = none →
    decodeRequest (encode ops i ++ rest) = .ok (i.expand, rest)

/-- R98, R99: the wire decoder reads back every panel command from its bytes, under any panel command table whose opcodes
do not repeat, for every parameter count the table gives the command and every value of the parameters. -/
def Obligations.WireDecodeOfEncode : Prop :=
  ∀ (ops : Opcodes) (i : Instr) (o : WireOp) (ps rest : List Byte), ops.Distinct → i.wellFormed ops = true →
    i.wire? = some (o, ps) → decodeWire ops (encode ops i ++ rest) = .ok (i, rest)

/-- Words written out from R83 to R92 and from the default opcodes of R99. -/
def Obligations.SampleWordsDecode : Prop :=
  decodeRequest [0x01#8] = .ok (.reset, []) ∧
  decodeRequest [0x02#8, 0xF8#8, 0x00#8] = .ok (.clear 0xF800#16, []) ∧
  decodeRequest [0x03#8, 0x00#8, 0x05#8, 0x00#8, 0x02#8] = .ok (.render 0#8 5#8 0#8 2#8, []) ∧
  decodeRequest [0x06#8, 0x00#8, 0x5C#8, 0x00#8, 0x00#8, 0xFF#8, 0xFF#8, 0x02#8, 0x48#8, 0x49#8] =
    .ok (.string 92#16 0#16 0xFFFF#16 [0x48#8, 0x49#8], []) ∧
  decodeRequest [0x08#8, 0xFF#8] = .ok (.invert true, []) ∧
  decodeRequest [0x09#8, 0x01#8] = .ok (.reserved 0x09#8, [0x01#8]) ∧
  decodeWire defaultOpcodes [0x15#8, 0x00#8, 0x5F#8] = .ok (.opSetColumn 0#8 95#8, [])

/-- R92: exactly the bytes 0x00 and 0x09 to 0xFF are read as a packet of their own that names no request. -/
def Obligations.ReservedBytesAreOneBytePackets : Prop :=
  ∀ (b : Byte) (rest : List Byte),
    decodeRequest (b :: rest) = .ok (.reserved b, rest) ↔ (b = 0x00#8 ∨ 0x09 ≤ b.toNat)

/-- R80, R93: a decoded packet is as long as its first byte says, or as its first and eighth bytes say for STRING,
and what follows it is left. -/
def Obligations.DecodedPacketHasPacketLength : Prop :=
  ∀ (bs : List Byte) (i : Instr) (rest : List Byte), decodeRequest bs = .ok (i, rest) →
    ∃ packet, bs = packet ++ rest ∧ packet.length = packetLength (bs.getD 0 0x00#8) (bs.getD 7 0x00#8)

/-- R91: a packet is read exactly when all its bytes are there; no operand value makes it undecodable. -/
def Obligations.PacketDecodesWhenWhole : Prop :=
  ∀ (b : Byte) (bs : List Byte),
    (∃ i rest, decodeRequest (b :: bs) = .ok (i, rest)) ↔
      packetLength b ((b :: bs).getD 7 0x00#8) ≤ (b :: bs).length

/-- R82: an `s16` operand is the two's complement value of its two bytes, high byte first. -/
def Obligations.CoordinateOfTwoBytes : Prop :=
  ∀ b0 b1 : Byte, coord (half b0 b1) =
    if b0.toNat < 128 then (256 * b0.toNat + b1.toNat : Int) else 256 * b0.toNat + b1.toNat - 65536

/-! The step -/

/-- R91, R60: a live, idle block whose request stream begins with a whole packet executes that request. -/
def Obligations.StepRunsTheDecodedRequest : Prop :=
  ∀ (s : State) (i : Instr) (rest : List Byte),
    s.powerOnSignal = false → s.halted = false → s.busy = false → decodeRequest s.requests = .ok (i, rest) →
    step s = exec i { s with requests := rest }

/-- R33, R131: a live block in the middle of a command sequence executes the next panel command of it. -/
def Obligations.StepRunsThePendingCommand : Prop :=
  ∀ (s : State) (i : Instr) (rest : List Byte),
    s.powerOnSignal = false → s.halted = false → s.busy = true → decodeWire s.cfg.ops s.pending = .ok (i, rest) →
    step s = exec i { s with pending := rest }

/-- R91, R266: an incomplete packet waits, and a halted block never takes a packet; the state does not change. That such
a block still has a step, one to the same state, is the model's choice (log entry 11): 93 U20 calls an incomplete packet
stuck. -/
def Obligations.WaitingAndHaltedBlocksDoNotMove : Prop :=
  ∀ s : State, s.powerOnSignal = false →
    (s.halted = true ∨ (s.busy = false ∧ decodeRequest s.requests = .error .incomplete)) → step s = .next s

/-- The bytes `withFetchWord` places are exactly what the next step executes, for every word of the table and every
state whose panel command table has no repeated opcode and the word's number of parameters (log entries 13, 14, 18). -/
def Obligations.StepRunsThePlacedWord : Prop :=
  ∀ (s : State) (nbits w : Nat) (i : Instr), s.cfg.ops.Distinct → decodeTableWord nbits w = some i →
    i.wellFormed s.cfg.ops = true →
    ∃ s', step (s.withFetchWord nbits w) = exec i s' ∧
      s' = { s with
        fault := { kind := none, rqi := 0 }
        powerOnSignal := false
        busy := i.wire?.isSome }

/-! Reset (10_state.md R40, 70_reset_and_hazards.md R300) -/

/-- R40: the values the spec gives after power-on. -/
def Obligations.StateAfterPowerOn : Prop :=
  State.reset.rstate = .idle ∧ State.reset.cs = .deasserted ∧ State.reset.dc = .data ∧
  State.reset.res = .deasserted ∧ State.reset.fault = { kind := none, rqi := 0 } ∧ State.reset.busy = false ∧
  State.reset.rqi = 0 ∧ State.reset.trace = [] ∧ blankGlyph State.reset.glyphRom ∧
  ∀ a, State.reset.fbByte a = Config.fbPowerOn 0 a

/-- R300, R40, R266, R269: power-on reset, from any state, puts RSTATE, the lines, FAULT, BUSY, RQI and TRACE at their
power-on values and FB at a fresh draw, sends nothing, and leaves GLYPH_ROM and the parameters; without it a halted
block stays as it is. That the signal is an input which the next step obeys and clears, with the parameters and the
transfers made kept, is read from the spec by inference (log entry 12), and that a halted block without the signal has
a step, one to the same state, is the model's choice (log entry 11). -/
def Obligations.PowerOnResetFromAnyState : Prop :=
  (∀ s : State, s.powerOnSignal = true → ∃ t, step s = .next t ∧
    t.rstate = .idle ∧ t.cs = .deasserted ∧ t.dc = .data ∧ t.res = .deasserted ∧
    t.fault = { kind := none, rqi := 0 } ∧ t.busy = false ∧ t.rqi = 0 ∧ t.trace = [] ∧
    (∀ a, t.fbByte a = Config.fbPowerOn (s.boots + 1) a) ∧ t.glyphRom = s.glyphRom ∧ t.cfg = s.cfg ∧
    t.txCount = s.txCount ∧ t.powerOnSignal = false) ∧
  ∀ s : State, s.powerOnSignal = false → s.halted = true → step s = .next s

/-- The invariant holds at power-on; its clause that nothing is left to send there is the model's choice (log entry 27). -/
def Obligations.PowerOnStateMeetsInvariant : Prop := BlockInv State.reset

/-- Every step keeps the invariant: canonical memory, blank glyph 0, the select discipline of the trace, the lines
that the trace says, resting lines, nothing left to send while no request runs, RSTATE between requests, no fault from
Plot, FAULT.rqi. The clause that nothing is left to send is the model's choice (log entry 27), where R33 leaves the
streamer's position unspecified. -/
def Obligations.EveryStepKeepsInvariant : Prop :=
  ∀ s t : State, BlockInv s → step s = .next t → BlockInv t

/-! The command channel (41_command_channel.md) -/

/-- R130: one command byte appends exactly the five events and rests the lines; where its transfer fails, three
events, the fault, and the lines stay as they were at the failure. That nothing is left to send after a fault is the
model's choice (log entries 25 and 27), where 10 R33 leaves the position unspecified. -/
def Obligations.SendCommandFramesOneByte : Prop :=
  ∀ (k : FaultKind) (b : Byte) (s : State), s.halted = false →
    (s.txOk 0 = true → sendCommand k b s = { s with
      cs := .deasserted, dc := .data
      trace := s.trace ++ [.cs .asserted, .dc .command, .tx [b], .dc .data, .cs .deasserted]
      txScript := s.txScript.tail, txCount := s.txCount + 1 }) ∧
    (s.txOk 0 = false → ∃ t, sendCommand k b s = t ∧ t = { s with
      cs := .asserted, dc := .command
      trace := s.trace ++ [.cs .asserted, .dc .command, .txFail [b]]
      fault := { kind := some k, rqi := s.rqi }
      busy := false, pending := []
      txScript := s.txScript.tail, txCount := s.txCount + 1
      line := t.line, blit := t.blit, streamer := t.streamer, draws := t.draws })

/-- R131, R266: a command sequence sends every byte in its own select cycle, in order, and an empty one does nothing;
where the transfer of entry `j` fails, the entries before it have been sent, three events of entry `j` are appended,
nothing after it is sent, the fault is recorded, BUSY falls, and CS stays asserted and DC in command-mode. That
nothing is left to send after a fault, and that otherwise the bytes left to send are as before, is the model's choice
(log entries 25 and 27), where 10 R33 leaves the position unspecified. -/
def Obligations.SequenceSendsEveryByteAlone : Prop :=
  ∀ (k : FaultKind) (bs : List Byte) (s : State), s.halted = false →
    (txAllOk s bs.length → sendSequence k bs s = { s with
      cs := if bs = [] then s.cs else .deasserted
      dc := if bs = [] then s.dc else .data
      trace := s.trace ++ sequenceEvents bs
      txScript := s.txScript.drop bs.length
      txCount := s.txCount + bs.length }) ∧
    (sequenceEvents bs).length = 5 * bs.length ∧
    ∀ (j : Nat) (h : j < bs.length), txFailsAt s j →
      ∃ t, sendSequence k bs s = t ∧ t = { s with
        cs := .asserted
        dc := .command
        trace := s.trace ++ sequenceEvents (bs.take j) ++ [.cs .asserted, .dc .command, .txFail [bs[j]]]
        fault := { kind := some k, rqi := s.rqi }
        busy := false
        pending := []
        txScript := s.txScript.drop (j + 1)
        txCount := s.txCount + (j + 1)
        line := t.line, blit := t.blit, streamer := t.streamer, draws := t.draws }

/-- R132, R133: a pixel burst is one transfer under one select cycle in data-mode; a failed one leaves CS asserted and
DC in data-mode and halts the block. That nothing is left to send after a fault is the model's choice (log entries 25
and 27), where 10 R33 leaves the position unspecified. -/
def Obligations.PixelBurstIsOneTransfer : Prop :=
  ∀ (k : FaultKind) (bs : List Byte) (s : State), s.halted = false →
    (s.txOk 0 = true → sendPixelData k bs s = { s with
      cs := .deasserted, dc := .data
      trace := s.trace ++ [.cs .asserted, .dc .data, .tx bs, .cs .deasserted]
      txScript := s.txScript.tail, txCount := s.txCount + 1 }) ∧
    (s.txOk 0 = false → ∃ t, sendPixelData k bs s = t ∧ t = { s with
      cs := .asserted, dc := .data
      trace := s.trace ++ [.cs .asserted, .dc .data, .txFail bs]
      fault := { kind := some k, rqi := s.rqi }
      busy := false, pending := []
      txScript := s.txScript.tail, txCount := s.txCount + 1
      line := t.line, blit := t.blit, streamer := t.streamer, draws := t.draws })

/-- R104: from the events of a command sequence followed by a burst the panel recovers exactly the command bytes and
then the burst. -/
def Obligations.PanelRecoversCommandsAndBurst : Prop :=
  ∀ (m : DcMode) (bs px : List Byte),
    panelView m (sequenceEvents bs ++ burstEvents px) = bs.map .command ++ [.data px]

/-! RESET (42_reset_sequencer.md) -/

/-- R150 to R154: RESET appends the seven events of the pulse and then INIT_PROG byte by byte, ends Ready with CS and
RES deasserted, advances RQI, and changes nothing else; FB is not touched. That the bytes left to send are as before
is the model's choice (log entry 27), where 10 R33 leaves the position unspecified. -/
def Obligations.ResetPulsesInitialisesAndBecomesReady : Prop :=
  ∀ s : State, s.halted = false → txAllOk s s.cfg.initProg.length →
    ∃ t, exec .reset s = .next t ∧
      t = { ended s t s.cfg.initProg.length
              ([.res .deasserted, .cs .deasserted, .delay 5, .res .asserted, .delay 80, .res .deasserted,
                .delay 20] ++ sequenceEvents s.cfg.initProg) with
            rstate := .ready, rqi := s.rqi + 1 } ∧
      t.cs = .deasserted ∧ t.res = .deasserted

/-- R157: where the transfer of byte `j` of INIT_PROG fails, the bytes before it have been sent, RSTATE stays
ResetReleasedSettling, the fault is TransmissionFailure(init), RQI does not advance, nothing is undone. That nothing
is left to send after a fault is the model's choice (log entries 25 and 27), where 10 R33 leaves the position
unspecified. -/
def Obligations.ResetStopsAtAFailedInitByte : Prop :=
  ∀ (s : State) (j : Nat) (h : j < s.cfg.initProg.length), s.halted = false → txFailsAt s j →
    ∃ t, exec .reset s = .next t ∧
      t = { ended s t (j + 1)
              (pulseEvents ++ sequenceEvents (s.cfg.initProg.take j) ++
                [.cs .asserted, .dc .command, .txFail [s.cfg.initProg[j]]]) with
            rstate := .resetReleasedSettling
            fault := { kind := some .init, rqi := s.rqi }
            pending := [] } ∧
      t.cs = .asserted ∧ t.dc = .command ∧ t.res = .deasserted

/-! CLEAR, RENDER, SCROLL, INVERT (46_display_controller.md) -/

/-- R230: CLEAR (and CLEARRGB) in Ready sets all 6144 words to the colour and appends the full-frame window's six
command bytes and one burst of 6144 times high byte, low byte; nothing else changes. That the bytes left to send are
as before is the model's choice (log entry 27), where 10 R33 leaves the position unspecified. -/
def Obligations.ClearFillsAndRendersTheFullFrame : Prop :=
  ∀ (s : State) (i : Instr) (color : Color), clearsTo i color →
    s.halted = false → s.rstate = .ready → txAllOk s 7 →
    ∃ t, exec i s = .next t ∧ (∀ n < 6144, t.fbWord n = color) ∧
      drawnAs s t 7
        (sequenceEvents [s.cfg.ops.setColumn, 0x00#8, 0x5F#8, s.cfg.ops.setRow, 0x00#8, 0x3F#8] ++
          burstEvents (List.replicate fbWords [hi color, lo color]).flatten)

/-- R230, R262: a CLEAR whose command byte or burst fails keeps the fill and halts: TransmissionFailure(command) or
TransmissionFailure(burst), CS asserted. That nothing is left to send after a fault is the model's choice (log entries
25 and 27), where 10 R33 leaves the position unspecified. -/
def Obligations.ClearKeepsTheFillWhenATransferFails : Prop :=
  ∀ (s : State) (i : Instr) (color : Color), clearsTo i color → s.halted = false → s.rstate = .ready →
    (∀ (j : Nat) (h : j < (addressWindow s.cfg.ops fullFrame).length), txFailsAt s j →
      ∃ t, exec i s = .next t ∧ (∀ n < 6144, t.fbWord n = color) ∧
        t = { ended s t (j + 1)
                (sequenceEvents ((addressWindow s.cfg.ops fullFrame).take j) ++
                  failedCommandEvents (addressWindow s.cfg.ops fullFrame)[j]) with
              fault := { kind := some .command, rqi := s.rqi }, pending := [], fb := t.fb } ∧
        t.cs = .asserted ∧ t.dc = .command) ∧
    (txFailsAt s 6 →
      ∃ t, exec i s = .next t ∧ (∀ n < 6144, t.fbWord n = color) ∧
        t = { ended s t 7
                (sequenceEvents (addressWindow s.cfg.ops fullFrame) ++
                  failedBurstEvents (List.replicate fbWords [hi color, lo color]).flatten) with
              fault := { kind := some .burst, rqi := s.rqi }, pending := [], fb := t.fb } ∧
        t.cs = .asserted ∧ t.dc = .data)

/-- R231, R172: RENDER (and RENDERALL) of a valid area in Ready appends the area's six command bytes and one burst of
the region's bytes; FB and everything else stay. That the bytes left to send are as before is the model's choice (log
entry 27), where 10 R33 leaves the position unspecified. -/
def Obligations.RenderSendsWindowThenRegion : Prop :=
  ∀ (s : State) (i : Instr) (a : RenderArea), rendersArea i a → a.valid = true →
    s.halted = false → s.rstate = .ready → txAllOk s 7 →
    ∃ t, exec i s = .next t ∧
      completedAs s t 7
        (sequenceEvents [s.cfg.ops.setColumn, a.startCol, a.endCol, s.cfg.ops.setRow, a.startRow, a.endRow] ++
          burstEvents (s.regionBytes a))

/-- R232, R171: the region's bytes are byteLength many, and the pixel in column `col` and row `row` is the two bytes,
high then low, at twice its position in row-major order. -/
def Obligations.RegionBytesAreRowMajor : Prop :=
  ∀ (s : State) (a : RenderArea), a.valid = true →
    (s.regionBytes a).length =
      2 * (a.endCol.toNat - a.startCol.toNat + 1) * (a.endRow.toNat - a.startRow.toNat + 1) ∧
    ∀ row col : Nat, a.startRow.toNat ≤ row → row ≤ a.endRow.toNat → a.startCol.toNat ≤ col → col ≤ a.endCol.toNat →
      let n := 2 * ((row - a.startRow.toNat) * (a.endCol.toNat - a.startCol.toNat + 1) + (col - a.startCol.toNat))
      (s.regionBytes a)[n]? = some (hi (s.fbWord (row * 96 + col))) ∧
      (s.regionBytes a)[n + 1]? = some (lo (s.fbWord (row * 96 + col)))

/-- R171: byteLength of a valid area is twice the number of its pixels, even, and between 2 and 12288, and 12288 only for
the full frame. -/
def Obligations.ByteLengthBounds : Prop :=
  ∀ a : RenderArea, a.valid = true →
    a.byteLength = 2 * (a.endCol.toNat - a.startCol.toNat + 1) * (a.endRow.toNat - a.startRow.toNat + 1) ∧
    a.byteLength % 2 = 0 ∧ 2 ≤ a.byteLength ∧ a.byteLength ≤ 12288 ∧ (a.byteLength = 12288 ↔ a = fullFrame)

/-- R231, R170: in Ready a RENDER whose bounds are not `start ≤ end` on both axes with columns up to 95 and rows up to
63 raises PreconditionViolation(area) before any event. That nothing is left to send after a fault is the model's
choice (log entries 25 and 27), where 10 R33 leaves the position unspecified. -/
def Obligations.InvalidAreaFaultsBeforeAnyEvent : Prop :=
  ∀ (s : State) (startCol endCol startRow endRow : Byte),
    ¬ (startCol.toNat ≤ endCol.toNat ∧ endCol.toNat ≤ 95 ∧ startRow.toNat ≤ endRow.toNat ∧ endRow.toNat ≤ 63) →
    s.halted = false → s.rstate = .ready →
    ∃ t, exec (.render startCol endCol startRow endRow) s = .next t ∧ faultedAs s t .area 0 []

/-- R237, R261, R270: CLEAR, RENDER (of any area, valid or not), SCROLL and INVERT before Ready raise
PreconditionViolation(order) before any effect; LINE, CHAR and STRING do the same in every RSTATE. That nothing is
left to send after a fault is the model's choice (log entries 25 and 27), where 10 R33 leaves the position
unspecified. -/
def Obligations.BusRequestsBeforeReadyFault : Prop :=
  (∀ (s : State) (i : Instr), needsReady i = true → s.halted = false → s.rstate ≠ .ready →
    ∃ t, exec i s = .next t ∧ faultedAs s t .order 0 []) ∧
  ∀ (s t : State) (i : Instr) (r : RState), draws i = true → exec i s = .next t →
    exec i { s with rstate := r } = .next { t with rstate := r }

/-- R233, R237: SCROLL in Ready sends the setup opcode, the five parameter bytes in the spec's order, unmasked, and
then the activate or deactivate opcode, and nothing else changes; before Ready it raises PreconditionViolation(order);
where byte `j` of the seven fails it raises TransmissionFailure(command). That nothing is left to send after a fault,
and that otherwise the bytes left to send are as before, is the model's choice (log entries 25 and 27), where 10 R33
leaves the position unspecified. -/
def Obligations.ScrollSendsSetupThenSwitch : Prop :=
  ∀ (s : State) (h v interval : Byte) (enable : Bool), s.halted = false →
    let bytes := [s.cfg.ops.scrollSetup, h, s.cfg.scrollStartRow, s.cfg.scrollNumRows, v, interval,
      if enable then s.cfg.ops.scrollOn else s.cfg.ops.scrollOff]
    ∃ t, exec (.scroll h v interval enable) s = .next t ∧
      (s.rstate = .ready → txAllOk s 7 → completedAs s t 7 (sequenceEvents bytes)) ∧
      (s.rstate ≠ .ready → faultedAs s t .order 0 []) ∧
      ∀ (j : Nat) (hj : j < bytes.length), s.rstate = .ready → txFailsAt s j →
        faultedAs s t .command (j + 1) (sequenceEvents (bytes.take j) ++ failedCommandEvents bytes[j])

/-- R234, R237: INVERT in Ready sends one command byte, the invert or the normal display opcode, and nothing else
changes; before Ready it raises PreconditionViolation(order); where the byte fails it raises
TransmissionFailure(command). That nothing is left to send after a fault, and that otherwise the bytes left to send
are as before, is the model's choice (log entries 25 and 27), where 10 R33 leaves the position unspecified. -/
def Obligations.InvertSendsOneOpcode : Prop :=
  ∀ (s : State) (on : Bool), s.halted = false →
    let opcode := if on then s.cfg.ops.invertDisplay else s.cfg.ops.normalDisplay
    ∃ t, exec (.invert on) s = .next t ∧
      (s.rstate = .ready → s.txOk 0 = true →
        completedAs s t 1 [.cs .asserted, .dc .command, .tx [opcode], .dc .data, .cs .deasserted]) ∧
      (s.rstate ≠ .ready → faultedAs s t .order 0 []) ∧
      (s.rstate = .ready → s.txOk 0 = false →
        faultedAs s t .command 1 [.cs .asserted, .dc .command, .txFail [opcode]])

/-- R262, R266, R268: where byte `j` of the window of RENDER of a valid area, or of RENDERALL, fails, the block halts
with TransmissionFailure(command), CS asserted and DC in command-mode; where the burst after it fails, with
TransmissionFailure(burst), CS asserted and DC in data-mode; the trace ends with the failed transfer, and FB, RSTATE
and RQI are as before. That nothing is left to send after a fault is the model's choice (log entries 25 and 27), where
10 R33 leaves the position unspecified. -/
def Obligations.RenderHaltsAtItsFirstFailedTransfer : Prop :=
  ∀ (s : State) (i : Instr) (a : RenderArea), rendersArea i a → a.valid = true →
    s.halted = false → s.rstate = .ready →
    let window := [s.cfg.ops.setColumn, a.startCol, a.endCol, s.cfg.ops.setRow, a.startRow, a.endRow]
    (∀ (j : Nat) (hj : j < window.length), txFailsAt s j →
      ∃ t, exec i s = .next t ∧
        faultedAs s t .command (j + 1) (sequenceEvents (window.take j) ++ failedCommandEvents window[j]) ∧
        t.cs = .asserted ∧ t.dc = .command) ∧
    (txFailsAt s 6 →
      ∃ t, exec i s = .next t ∧
        faultedAs s t .burst 7 (sequenceEvents window ++ failedBurstEvents (s.regionBytes a)) ∧
        t.cs = .asserted ∧ t.dc = .data)

/-! LINE (44_line_engine.md) -/

/-- R180, R188: LINE with both end points on the panel completes in any RSTATE with no event: every plotted point's
word is the colour, every byte of FB outside the plotted words is as before, and nothing else changes. With an end
point off the panel it raises PreconditionViolation(coord), and FB is as before. That nothing is left to send after a
fault, and that otherwise the bytes left to send are as before, is the model's choice (log entries 25 and 27), where
10 R33 leaves the position unspecified. -/
def Obligations.LineColoursExactlyItsPoints : Prop :=
  ∀ (s : State) (x0 y0 x1 y1 : Half) (color : Color), s.halted = false →
    let ps := linePoints (coord x0) (coord y0) (coord x1) (coord y1)
    ∃ t, exec (.line x0 y0 x1 y1 color) s = .next t ∧
      if onPanel (coord x0) (coord y0) ∧ onPanel (coord x1) (coord y1) then
        drawnAs s t 0 [] ∧
        (∀ p ∈ ps, t.fbWord (pixelIndex p.1.toNat p.2.toNat) = color) ∧
        (∀ a : Nat,
          (∀ p ∈ ps, a ≠ 2 * pixelIndex p.1.toNat p.2.toNat ∧ a ≠ 2 * pixelIndex p.1.toNat p.2.toNat + 1) →
          t.fbByte a = s.fbByte a)
      else faultedAs s t .coord 0 []

/-- R184: the points of a LINE on the panel are `max(|x1-x0|, |y1-y0|) + 1` many and pairwise distinct, begin with
the start and end with the end point, move by at most 1 in each coordinate and by exactly 1 in one whose extent is
the longer, and stay in the bounding box of the end points. -/
def Obligations.LinePointsGuarantee : Prop :=
  ∀ x0 y0 x1 y1 : Int, onPanel x0 y0 = true → onPanel x1 y1 = true →
    let ps := linePoints x0 y0 x1 y1
    ps.length = max (x1 - x0).natAbs (y1 - y0).natAbs + 1 ∧ ps.Nodup ∧
    ps.head? = some (x0, y0) ∧ ps.getLast? = some (x1, y1) ∧
    ps.IsChain (fun p q => (q.1 - p.1).natAbs ≤ 1 ∧ (q.2 - p.2).natAbs ≤ 1 ∧
      ((y1 - y0).natAbs ≤ (x1 - x0).natAbs → (q.1 - p.1).natAbs = 1) ∧
      ((x1 - x0).natAbs ≤ (y1 - y0).natAbs → (q.2 - p.2).natAbs = 1)) ∧
    ∀ p ∈ ps, min x0 x1 ≤ p.1 ∧ p.1 ≤ max x0 x1 ∧ min y0 y1 ≤ p.2 ∧ p.2 ≤ max y0 y1

/-- R190: over all legal end points the registers of the line engine keep the spec's ranges. -/
def Obligations.LineRegistersKeepTheirRanges : Prop :=
  ∀ x0 y0 x1 y1 : Int, onPanel x0 y0 = true → onPanel x1 y1 = true →
    ∀ r ∈ lineStates lineFuel (LineRegs.setup LineRegs.reset x0 y0 x1 y1),
      0 ≤ r.dx ∧ r.dx ≤ 95 ∧ -63 ≤ r.dy ∧ r.dy ≤ 0 ∧ 0 ≤ r.x ∧ r.x ≤ 95 ∧ 0 ≤ r.y ∧ r.y ≤ 63 ∧
      -93 ≤ r.err ∧ r.err ≤ 141 ∧ -186 ≤ r.e2 ∧ r.e2 ≤ 282

/-- R185: the degenerate line plots exactly one point. -/
def Obligations.DegenerateLineIsOnePoint : Prop :=
  ∀ x y : Int, linePoints x y x y = [(x, y)]

/-! CHAR and STRING (45_glyph_blitter.md) -/

/-- R201: the character map over all 256 codes. -/
def Obligations.CharacterMap : Prop :=
  ∀ ch : Byte, (charToGlyphIndex ch).val =
    if 0x41 ≤ ch.toNat ∧ ch.toNat ≤ 0x5A then ch.toNat - 0x40
    else if 0x61 ≤ ch.toNat ∧ ch.toNat ≤ 0x7A then ch.toNat - 0x60
    else if 0x30 ≤ ch.toNat ∧ ch.toNat ≤ 0x39 then ch.toNat - 0x30 + 27
    else if ch.toNat = 0x2E then 37
    else if ch.toNat = 0x3A then 38
    else 0

/-- R203, R205, R202: CHAR whose cell fits completes in any RSTATE with no event: each of the 64 pixels of its cell is
the colour where bit `7 - col` of the glyph's row byte is set and BG_COLOR elsewhere, every byte of FB outside the
cell is as before, nothing else changes. That the bytes left to send are as before is the model's choice (log entry
27), where 10 R33 leaves the position unspecified. -/
def Obligations.CharDrawsItsWholeCell : Prop :=
  ∀ (s : State) (x y : Half) (ch : Byte) (color : Color), s.halted = false →
    0 ≤ coord x → coord x ≤ 88 → 0 ≤ coord y → coord y ≤ 56 →
    ∃ t, exec (.char x y ch color) s = .next t ∧ drawnAs s t 0 [] ∧
      (∀ row col : Fin 8,
        t.fbWord (pixelIndex ((coord x).toNat + col) ((coord y).toNat + row)) =
          if s.glyphRom[charToGlyphIndex ch][row].getLsbD (7 - col) then color else s.cfg.bgColor) ∧
      (∀ a : Nat,
        (∀ row col : Fin 8,
          a ≠ 2 * pixelIndex ((coord x).toNat + col) ((coord y).toNat + row) ∧
          a ≠ 2 * pixelIndex ((coord x).toNat + col) ((coord y).toNat + row) + 1) →
        t.fbByte a = s.fbByte a)

/-- R204, R206, R263: CHAR and STRING whose origin is outside columns 0 to 88 or rows 0 to 56 complete with no effect
but RQI. That the bytes left to send are as before is the model's choice (log entry 27), where 10 R33 leaves the
position unspecified. -/
def Obligations.SilentClipChangesNothing : Prop :=
  ∀ (s : State) (x y : Half) (ch : Byte) (color : Color) (text : List Byte), s.halted = false →
    ¬ (0 ≤ coord x ∧ coord x ≤ 88 ∧ 0 ≤ coord y ∧ coord y ≤ 56) →
    (∃ t, exec (.char x y ch color) s = .next t ∧ completedAs s t 0 []) ∧
    (∃ t, exec (.string x y color text) s = .next t ∧ completedAs s t 0 [])

/-- R206, R207, R208: STRING whose origin fits completes in any RSTATE with no event: character `k` is drawn as CHAR
draws it at column `x + 8k` exactly if `x + 8k ≤ 88`, every byte of FB outside the drawn cells is as before, nothing
else changes. That the bytes left to send are as before is the model's choice (log entry 27), where 10 R33 leaves the
position unspecified. -/
def Obligations.StringDrawsTheCharactersThatFit : Prop :=
  ∀ (s : State) (x y : Half) (color : Color) (text : List Byte), s.halted = false →
    0 ≤ coord x → coord x ≤ 88 → 0 ≤ coord y → coord y ≤ 56 →
    ∃ t, exec (.string x y color text) s = .next t ∧ drawnAs s t 0 [] ∧
      (∀ (k : Nat) (h : k < text.length), coord x + 8 * k ≤ 88 → ∀ row col : Fin 8,
        t.fbWord (pixelIndex ((coord x).toNat + 8 * k + col) ((coord y).toNat + row)) =
          if s.glyphRom[charToGlyphIndex text[k]][row].getLsbD (7 - col) then color else s.cfg.bgColor) ∧
      (∀ a : Nat,
        (∀ k < text.length, coord x + 8 * k ≤ 88 → ∀ row col : Fin 8,
          a ≠ 2 * pixelIndex ((coord x).toNat + 8 * k + col) ((coord y).toNat + row) ∧
          a ≠ 2 * pixelIndex ((coord x).toNat + 8 * k + col) ((coord y).toNat + row) + 1) →
        t.fbByte a = s.fbByte a)

/-- R22, R205: in a state that meets the invariant, a character without a glyph fills its cell with BG_COLOR. -/
def Obligations.BlankGlyphFillsWithBackground : Prop :=
  ∀ (s t : State) (x y : Half) (ch : Byte) (color : Color), BlockInv s → s.halted = false →
    cellFits (coord x) (coord y) = true → charToGlyphIndex ch = 0 → exec (.char x y ch color) s = .next t →
    ∀ row col : Fin 8, t.fbWord (pixelIndex ((coord x).toNat + col) ((coord y).toNat + row)) = s.cfg.bgColor

/-! Illegal requests and wire commands -/

/-- R264, R92, R266: a byte 00 or 09 to FF at the front of the stream of a live, idle block is consumed and raises
IllegalRequest: FAULT is cause 3, sub 1 at the current RQI, nothing else changes, the block is halted, and the bytes
that follow are never taken. The instruction itself does the same in every live state. That nothing is left to send
after a fault is the model's choice (log entries 25 and 27), where 10 R33 leaves the position unspecified. That the
halted block has a step, one to the same state, is the model's choice (log entry 11). -/
def Obligations.ReservedByteHaltsTheBlock : Prop :=
  (∀ (s : State) (b : Byte), s.halted = false →
    ∃ t, exec (.reserved b) s = .next t ∧ faultedAs s t .opcode 0 [] ∧
      t.fault.cause = 3#2 ∧ t.fault.sub = 1#4 ∧ t.halted = true) ∧
  ∀ (s : State) (b : Byte) (rest : List Byte),
    s.powerOnSignal = false → s.halted = false → s.busy = false → s.requests = b :: rest →
    b = 0x00#8 ∨ 0x09 ≤ b.toNat →
    ∃ t, step s = .next t ∧ faultedAs { s with requests := rest } t .opcode 0 [] ∧
      t.fault.cause = 3#2 ∧ t.fault.sub = 1#4 ∧ step t = .next t

/-- R98, R131: every panel command sends its opcode and then its parameters, each in its own select cycle; BUSY, RQI,
FB and everything else stay, whatever number of parameters it carries. The instructions with a panel command are
opSetColumn, opSetRow, opScrollSetup, opScrollOff, opScrollOn, opContrastA, opContrastB, opContrastC, opMasterCurrent,
opPrechargeA, opPrechargeB, opPrechargeC, opSetRemap, opStartLine, opDisplayOffset, opNormalDisplay, opInvertDisplay,
opSetMultiplex, opSetMaster, opDisplayOff, opDisplayOn, opPowerMode, opPhaseAdjust, opClockDiv, opPrechargeLevel and
opVcomh. That the bytes left to send are as before is the model's choice (log entry 27), where 10 R33 leaves the
position unspecified. -/
def Obligations.WireCommandsSendTheirBytes : Prop :=
  ∀ (s : State) (i : Instr) (o : WireOp) (ps : List Byte), i.wire? = some (o, ps) →
    s.halted = false → txAllOk s (1 + ps.length) →
    ∃ t, exec i s = .next t ∧
      t = { s with
        cs := .deasserted
        dc := .data
        trace := s.trace ++ sequenceEvents (s.cfg.ops.byte o :: ps)
        txScript := s.txScript.drop (1 + ps.length)
        txCount := s.txCount + (1 + ps.length) }

/-- A panel command whose byte `j` fails halts the block: TransmissionFailure(command) in Ready, and
TransmissionFailure(init) elsewhere (log entry 9). That nothing is left to send after a fault is the model's choice
(log entries 25 and 27), where 10 R33 leaves the position unspecified. -/
def Obligations.WireCommandStopsAtAFailedByte : Prop :=
  ∀ (s : State) (i : Instr) (o : WireOp) (ps : List Byte) (j : Nat) (hj : j < (s.cfg.ops.byte o :: ps).length),
    i.wire? = some (o, ps) → s.halted = false → txFailsAt s j →
    ∃ t, exec i s = .next t ∧
      faultedAs s t (if s.rstate = .ready then .command else .init) (j + 1)
        (sequenceEvents ((s.cfg.ops.byte o :: ps).take j) ++ failedCommandEvents (s.cfg.ops.byte o :: ps)[j])

/-! Colours (40_color_pack.md) -/

/-- R120: rgb565 by arithmetic; R122: its two stated values; R123: expanding and packing again is the identity, and
packing and expanding clears the low bits; R121: the low bits do not affect the result. -/
def Obligations.Rgb565PacksAndRoundTrips : Prop :=
  (∀ r g b : Byte, (rgb565 r g b).toNat = r.toNat / 8 * 2048 + g.toNat / 4 * 32 + b.toNat / 8) ∧
  rgb565 0xFF#8 0xFF#8 0xFF#8 = 0xFFFF#16 ∧ rgb565 0x00#8 0x00#8 0x00#8 = 0x0000#16 ∧
  (∀ c : Color, rgb565 (expand565 c).1 (expand565 c).2.1 (expand565 c).2.2 = c) ∧
  (∀ r g b : Byte,
    (expand565 (rgb565 r g b)).1.toNat = r.toNat - r.toNat % 8 ∧
    (expand565 (rgb565 r g b)).2.1.toNat = g.toNat - g.toNat % 4 ∧
    (expand565 (rgb565 r g b)).2.2.toNat = b.toNat - b.toNat % 8) ∧
  (∀ r g b : Byte, rgb565 r g b = rgb565 (BitVec.ofNat 8 (r.toNat - r.toNat % 8))
    (BitVec.ofNat 8 (g.toNat - g.toNat % 4)) (BitVec.ofNat 8 (b.toNat - b.toNat % 8)))

/-! The framebuffer (20_memory.md) -/

/-- R53, R51: Plot on the panel writes the one word `y*96 + x` and leaves every other byte of FB and all other state;
off the panel it raises PreconditionViolation(plot) and writes nothing. That the sub-cause
off the panel is plot (R53, R260) and not coord (00 R9) is the model's choice (log entry 26). -/
def Obligations.PlotWritesOneWord : Prop :=
  ∀ (x y : Int) (c : Color) (s : State),
    (onPanel x y = true →
      (plot x y c s).fbWord (y * 96 + x).toNat = c ∧
      (∀ a, a ≠ 2 * (y * 96 + x).toNat → a ≠ 2 * (y * 96 + x).toNat + 1 → (plot x y c s).fbByte a = s.fbByte a) ∧
      plot x y c s = { s with fb := (plot x y c s).fb }) ∧
    (onPanel x y = false →
      (plot x y c s).fault = { kind := some .plot, rqi := s.rqi } ∧ (plot x y c s).fb = s.fb)

/-- R51, R52: the index of the pixel in column `x` and row `y` is `96 y + x`; on the panel it is a word 0..6143, and `mod
96` and `div 96` give the pixel back. -/
def Obligations.IndexFormulaInverts : Prop :=
  (∀ x y : Nat, pixelIndex x y = 96 * y + x) ∧
  (∀ x y : Nat, x ≤ 95 → y ≤ 63 →
    pixelIndex x y < 6144 ∧ pixelIndex x y % 96 = x ∧ pixelIndex x y / 96 = y) ∧
  (∀ i < 6144, i % 96 ≤ 95 ∧ i / 96 ≤ 63 ∧ pixelIndex (i % 96) (i / 96) = i)

/-! Whole-machine rules -/

/-- R265: an instruction of a block that is not halted raises only the faults its row of the table allows. -/
def Obligations.FaultsAreTheAllowedOnes : Prop :=
  ∀ (s t : State) (i : Instr), s.halted = false → exec i s = .next t →
    ∀ k, t.fault.kind = some k → k ∈ allowedFaults i

/-- R26, R28, R266: a request of a block that is not halted ends with BUSY 0, and either it has no fault and RQI has
advanced by 1, or it has a fault, RQI has not advanced and FAULT.rqi is RQI. -/
def Obligations.RequestsEndCompletedOrHalted : Prop :=
  ∀ (s t : State) (i : Instr), i.wire? = none → s.halted = false → exec i s = .next t →
    t.busy = false ∧
    ((t.fault = s.fault ∧ t.rqi = s.rqi + 1) ∨
      (t.halted = true ∧ t.rqi = s.rqi ∧ t.fault.rqi = s.rqi))

/-- R37, R22, R23, R42: FB is written only by CLEAR, LINE, CHAR and STRING, RSTATE only by RESET, TRACE and the lines
by none of LINE, CHAR, STRING; GLYPH_ROM and the parameters by nothing. -/
def Obligations.AccessByRequest : Prop :=
  ∀ (s t : State) (i : Instr), exec i s = .next t →
    (mayWriteFb i = false → t.fb = s.fb) ∧ (i ≠ .reset → t.rstate = s.rstate) ∧
    (leavesBus i = true → t.trace = s.trace ∧ linesOf t = linesOf s) ∧
    t.glyphRom = s.glyphRom ∧ t.cfg = s.cfg ∧ t.requests = s.requests ∧ t.boots = s.boots ∧
    t.powerOnSignal = s.powerOnSignal

/-- R30, R62: no instruction removes or changes an event of TRACE. -/
def Obligations.TraceOnlyGrows : Prop :=
  ∀ (s t : State) (i : Instr), exec i s = .next t → s.trace <+: t.trace

/-- R24, R30: the lines and TRACE are never read: from states that differ only in them, an instruction appends the
same events and leaves states that differ only in them. -/
def Obligations.LinesAndTraceAreNeverRead : Prop :=
  ∀ (s t t' : State) (i : Instr) (l : Lines) (tr : List Event),
    exec i s = .next t → exec i { s with cs := l.cs, dc := l.dc, res := l.res, trace := tr } = .next t' →
    { t' with cs := t.cs, dc := t.dc, res := t.res, trace := t.trace } = t ∧
    ∃ es, t.trace = s.trace ++ es ∧ t'.trace = tr ++ es

/-- R31, R32, R33, R40: the engine registers, the streamer's position in its command sequence among them, are never read
before they are written: from states that differ only in them, an instruction leaves states that differ only in them. -/
def Obligations.EngineRegistersAreNeverReadFirst : Prop :=
  ∀ (s t t' : State) (i : Instr) (l : LineRegs) (b : BlitRegs) (r : StreamRegs) (p : List Byte),
    exec i s = .next t → exec i { s with line := l, blit := b, streamer := r, pending := p } = .next t' →
    { t' with line := t.line, blit := t.blit, streamer := t.streamer, pending := t.pending } = t

/-- R260, R25: the register image of FAULT for each fault. -/
def Obligations.FaultImages : Prop :=
  ∀ n : Nat,
    (FaultReg.image { kind := some .coord, rqi := n }, FaultReg.image { kind := some .area, rqi := n },
      FaultReg.image { kind := some .order, rqi := n }, FaultReg.image { kind := some .plot, rqi := n }) =
      (0x05#6, 0x09#6, 0x0D#6, 0x11#6) ∧
    (FaultReg.image { kind := some .command, rqi := n }, FaultReg.image { kind := some .burst, rqi := n },
      FaultReg.image { kind := some .init, rqi := n }, FaultReg.image { kind := some .opcode, rqi := n }) =
      (0x06#6, 0x0A#6, 0x0E#6, 0x07#6) ∧
    FaultReg.image { kind := none, rqi := n } = 0x00#6

/-- R138: the number of events of a request that completes: INVERT 5, SCROLL 35, RENDER and CLEAR 34, RESET 7 and five
for each byte of INIT_PROG. -/
def Obligations.EventCounts : Prop :=
  ∀ (s t : State) (i : Instr), s.halted = false → exec i s = .next t → t.halted = false →
    (∀ on, i = .invert on → t.trace.length = s.trace.length + 5) ∧
    (∀ h v n e, i = .scroll h v n e → t.trace.length = s.trace.length + 35) ∧
    (∀ a, rendersArea i a → t.trace.length = s.trace.length + 34) ∧
    (∀ c, clearsTo i c → t.trace.length = s.trace.length + 34) ∧
    (i = .reset → t.trace.length = s.trace.length + 7 + 5 * s.cfg.initProg.length)

/-- R187: a line and its reverse may plot different points; horizontal, vertical and exactly diagonal lines plot the same
points in both directions. -/
def Obligations.StraightLinesPlotTheSameBothWays : Prop :=
  (linePoints 0 0 4 1 = [(0, 0), (1, 0), (2, 1), (3, 1), (4, 1)] ∧
    linePoints 4 1 0 0 = [(4, 1), (3, 1), (2, 0), (1, 0), (0, 0)]) ∧
  ∀ x0 y0 x1 y1 : Int, onPanel x0 y0 = true → onPanel x1 y1 = true →
    (y0 = y1 ∨ x0 = x1 ∨ (x1 - x0).natAbs = (y1 - y0).natAbs) →
    linePoints x1 y1 x0 y0 = (linePoints x0 y0 x1 y1).reverse
end

