-- ==== Sys2Proof/Laws/State.lean ====
section
/-! SUPPORT. One lemma per field per update of the state, each true by definition, so that no later proof unfolds a
record update. -/

namespace Sys2Proof.Machine

/-! `logEvent` -/

@[simp] theorem logEvent_fb (e : Event) (s : State) :
    (logEvent e s).fb = s.fb := rfl
@[simp] theorem logEvent_glyphRom (e : Event) (s : State) :
    (logEvent e s).glyphRom = s.glyphRom := rfl
@[simp] theorem logEvent_rstate (e : Event) (s : State) :
    (logEvent e s).rstate = s.rstate := rfl
@[simp] theorem logEvent_cs (e : Event) (s : State) :
    (logEvent e s).cs = s.cs := rfl
@[simp] theorem logEvent_dc (e : Event) (s : State) :
    (logEvent e s).dc = s.dc := rfl
@[simp] theorem logEvent_res (e : Event) (s : State) :
    (logEvent e s).res = s.res := rfl
@[simp] theorem logEvent_fault (e : Event) (s : State) :
    (logEvent e s).fault = s.fault := rfl
@[simp] theorem logEvent_busy (e : Event) (s : State) :
    (logEvent e s).busy = s.busy := rfl
@[simp] theorem logEvent_rqi (e : Event) (s : State) :
    (logEvent e s).rqi = s.rqi := rfl
@[simp] theorem logEvent_trace (e : Event) (s : State) :
    (logEvent e s).trace = s.trace ++ [e] := rfl
@[simp] theorem logEvent_line (e : Event) (s : State) :
    (logEvent e s).line = s.line := rfl
@[simp] theorem logEvent_blit (e : Event) (s : State) :
    (logEvent e s).blit = s.blit := rfl
@[simp] theorem logEvent_streamer (e : Event) (s : State) :
    (logEvent e s).streamer = s.streamer := rfl
@[simp] theorem logEvent_pending (e : Event) (s : State) :
    (logEvent e s).pending = s.pending := rfl
@[simp] theorem logEvent_cfg (e : Event) (s : State) :
    (logEvent e s).cfg = s.cfg := rfl
@[simp] theorem logEvent_requests (e : Event) (s : State) :
    (logEvent e s).requests = s.requests := rfl
@[simp] theorem logEvent_powerOnSignal (e : Event) (s : State) :
    (logEvent e s).powerOnSignal = s.powerOnSignal := rfl
@[simp] theorem logEvent_txScript (e : Event) (s : State) :
    (logEvent e s).txScript = s.txScript := rfl
@[simp] theorem logEvent_txCount (e : Event) (s : State) :
    (logEvent e s).txCount = s.txCount := rfl
@[simp] theorem logEvent_boots (e : Event) (s : State) :
    (logEvent e s).boots = s.boots := rfl
@[simp] theorem logEvent_draws (e : Event) (s : State) :
    (logEvent e s).draws = s.draws := rfl
@[simp] theorem logEvent_halted (e : Event) (s : State) : (logEvent e s).halted = s.halted := rfl
@[simp] theorem logEvent_txOk (e : Event) (s : State) (j : Nat) : (logEvent e s).txOk j = s.txOk j := rfl
@[simp] theorem logEvent_fbByte (e : Event) (s : State) (addr : Nat) :
    (logEvent e s).fbByte addr = s.fbByte addr := rfl

/-! `setCS` -/

@[simp] theorem setCS_fb (v : Line) (s : State) :
    (setCS v s).fb = s.fb := rfl
@[simp] theorem setCS_glyphRom (v : Line) (s : State) :
    (setCS v s).glyphRom = s.glyphRom := rfl
@[simp] theorem setCS_rstate (v : Line) (s : State) :
    (setCS v s).rstate = s.rstate := rfl
@[simp] theorem setCS_cs (v : Line) (s : State) :
    (setCS v s).cs = v := rfl
@[simp] theorem setCS_dc (v : Line) (s : State) :
    (setCS v s).dc = s.dc := rfl
@[simp] theorem setCS_res (v : Line) (s : State) :
    (setCS v s).res = s.res := rfl
@[simp] theorem setCS_fault (v : Line) (s : State) :
    (setCS v s).fault = s.fault := rfl
@[simp] theorem setCS_busy (v : Line) (s : State) :
    (setCS v s).busy = s.busy := rfl
@[simp] theorem setCS_rqi (v : Line) (s : State) :
    (setCS v s).rqi = s.rqi := rfl
@[simp] theorem setCS_trace (v : Line) (s : State) :
    (setCS v s).trace = s.trace ++ [.cs v] := rfl
@[simp] theorem setCS_line (v : Line) (s : State) :
    (setCS v s).line = s.line := rfl
@[simp] theorem setCS_blit (v : Line) (s : State) :
    (setCS v s).blit = s.blit := rfl
@[simp] theorem setCS_streamer (v : Line) (s : State) :
    (setCS v s).streamer = s.streamer := rfl
@[simp] theorem setCS_pending (v : Line) (s : State) :
    (setCS v s).pending = s.pending := rfl
@[simp] theorem setCS_cfg (v : Line) (s : State) :
    (setCS v s).cfg = s.cfg := rfl
@[simp] theorem setCS_requests (v : Line) (s : State) :
    (setCS v s).requests = s.requests := rfl
@[simp] theorem setCS_powerOnSignal (v : Line) (s : State) :
    (setCS v s).powerOnSignal = s.powerOnSignal := rfl
@[simp] theorem setCS_txScript (v : Line) (s : State) :
    (setCS v s).txScript = s.txScript := rfl
@[simp] theorem setCS_txCount (v : Line) (s : State) :
    (setCS v s).txCount = s.txCount := rfl
@[simp] theorem setCS_boots (v : Line) (s : State) :
    (setCS v s).boots = s.boots := rfl
@[simp] theorem setCS_draws (v : Line) (s : State) :
    (setCS v s).draws = s.draws := rfl
@[simp] theorem setCS_halted (v : Line) (s : State) : (setCS v s).halted = s.halted := rfl
@[simp] theorem setCS_txOk (v : Line) (s : State) (j : Nat) : (setCS v s).txOk j = s.txOk j := rfl
@[simp] theorem setCS_fbByte (v : Line) (s : State) (addr : Nat) :
    (setCS v s).fbByte addr = s.fbByte addr := rfl

/-! `setDC` -/

@[simp] theorem setDC_fb (v : DcMode) (s : State) :
    (setDC v s).fb = s.fb := rfl
@[simp] theorem setDC_glyphRom (v : DcMode) (s : State) :
    (setDC v s).glyphRom = s.glyphRom := rfl
@[simp] theorem setDC_rstate (v : DcMode) (s : State) :
    (setDC v s).rstate = s.rstate := rfl
@[simp] theorem setDC_cs (v : DcMode) (s : State) :
    (setDC v s).cs = s.cs := rfl
@[simp] theorem setDC_dc (v : DcMode) (s : State) :
    (setDC v s).dc = v := rfl
@[simp] theorem setDC_res (v : DcMode) (s : State) :
    (setDC v s).res = s.res := rfl
@[simp] theorem setDC_fault (v : DcMode) (s : State) :
    (setDC v s).fault = s.fault := rfl
@[simp] theorem setDC_busy (v : DcMode) (s : State) :
    (setDC v s).busy = s.busy := rfl
@[simp] theorem setDC_rqi (v : DcMode) (s : State) :
    (setDC v s).rqi = s.rqi := rfl
@[simp] theorem setDC_trace (v : DcMode) (s : State) :
    (setDC v s).trace = s.trace ++ [.dc v] := rfl
@[simp] theorem setDC_line (v : DcMode) (s : State) :
    (setDC v s).line = s.line := rfl
@[simp] theorem setDC_blit (v : DcMode) (s : State) :
    (setDC v s).blit = s.blit := rfl
@[simp] theorem setDC_streamer (v : DcMode) (s : State) :
    (setDC v s).streamer = s.streamer := rfl
@[simp] theorem setDC_pending (v : DcMode) (s : State) :
    (setDC v s).pending = s.pending := rfl
@[simp] theorem setDC_cfg (v : DcMode) (s : State) :
    (setDC v s).cfg = s.cfg := rfl
@[simp] theorem setDC_requests (v : DcMode) (s : State) :
    (setDC v s).requests = s.requests := rfl
@[simp] theorem setDC_powerOnSignal (v : DcMode) (s : State) :
    (setDC v s).powerOnSignal = s.powerOnSignal := rfl
@[simp] theorem setDC_txScript (v : DcMode) (s : State) :
    (setDC v s).txScript = s.txScript := rfl
@[simp] theorem setDC_txCount (v : DcMode) (s : State) :
    (setDC v s).txCount = s.txCount := rfl
@[simp] theorem setDC_boots (v : DcMode) (s : State) :
    (setDC v s).boots = s.boots := rfl
@[simp] theorem setDC_draws (v : DcMode) (s : State) :
    (setDC v s).draws = s.draws := rfl
@[simp] theorem setDC_halted (v : DcMode) (s : State) : (setDC v s).halted = s.halted := rfl
@[simp] theorem setDC_txOk (v : DcMode) (s : State) (j : Nat) : (setDC v s).txOk j = s.txOk j := rfl
@[simp] theorem setDC_fbByte (v : DcMode) (s : State) (addr : Nat) :
    (setDC v s).fbByte addr = s.fbByte addr := rfl

/-! `setRES` -/

@[simp] theorem setRES_fb (v : Line) (s : State) :
    (setRES v s).fb = s.fb := rfl
@[simp] theorem setRES_glyphRom (v : Line) (s : State) :
    (setRES v s).glyphRom = s.glyphRom := rfl
@[simp] theorem setRES_rstate (v : Line) (s : State) :
    (setRES v s).rstate = s.rstate := rfl
@[simp] theorem setRES_cs (v : Line) (s : State) :
    (setRES v s).cs = s.cs := rfl
@[simp] theorem setRES_dc (v : Line) (s : State) :
    (setRES v s).dc = s.dc := rfl
@[simp] theorem setRES_res (v : Line) (s : State) :
    (setRES v s).res = v := rfl
@[simp] theorem setRES_fault (v : Line) (s : State) :
    (setRES v s).fault = s.fault := rfl
@[simp] theorem setRES_busy (v : Line) (s : State) :
    (setRES v s).busy = s.busy := rfl
@[simp] theorem setRES_rqi (v : Line) (s : State) :
    (setRES v s).rqi = s.rqi := rfl
@[simp] theorem setRES_trace (v : Line) (s : State) :
    (setRES v s).trace = s.trace ++ [.res v] := rfl
@[simp] theorem setRES_line (v : Line) (s : State) :
    (setRES v s).line = s.line := rfl
@[simp] theorem setRES_blit (v : Line) (s : State) :
    (setRES v s).blit = s.blit := rfl
@[simp] theorem setRES_streamer (v : Line) (s : State) :
    (setRES v s).streamer = s.streamer := rfl
@[simp] theorem setRES_pending (v : Line) (s : State) :
    (setRES v s).pending = s.pending := rfl
@[simp] theorem setRES_cfg (v : Line) (s : State) :
    (setRES v s).cfg = s.cfg := rfl
@[simp] theorem setRES_requests (v : Line) (s : State) :
    (setRES v s).requests = s.requests := rfl
@[simp] theorem setRES_powerOnSignal (v : Line) (s : State) :
    (setRES v s).powerOnSignal = s.powerOnSignal := rfl
@[simp] theorem setRES_txScript (v : Line) (s : State) :
    (setRES v s).txScript = s.txScript := rfl
@[simp] theorem setRES_txCount (v : Line) (s : State) :
    (setRES v s).txCount = s.txCount := rfl
@[simp] theorem setRES_boots (v : Line) (s : State) :
    (setRES v s).boots = s.boots := rfl
@[simp] theorem setRES_draws (v : Line) (s : State) :
    (setRES v s).draws = s.draws := rfl
@[simp] theorem setRES_halted (v : Line) (s : State) : (setRES v s).halted = s.halted := rfl
@[simp] theorem setRES_txOk (v : Line) (s : State) (j : Nat) : (setRES v s).txOk j = s.txOk j := rfl
@[simp] theorem setRES_fbByte (v : Line) (s : State) (addr : Nat) :
    (setRES v s).fbByte addr = s.fbByte addr := rfl

/-! `delay` -/

@[simp] theorem delay_fb (n : Nat) (s : State) :
    (delay n s).fb = s.fb := rfl
@[simp] theorem delay_glyphRom (n : Nat) (s : State) :
    (delay n s).glyphRom = s.glyphRom := rfl
@[simp] theorem delay_rstate (n : Nat) (s : State) :
    (delay n s).rstate = s.rstate := rfl
@[simp] theorem delay_cs (n : Nat) (s : State) :
    (delay n s).cs = s.cs := rfl
@[simp] theorem delay_dc (n : Nat) (s : State) :
    (delay n s).dc = s.dc := rfl
@[simp] theorem delay_res (n : Nat) (s : State) :
    (delay n s).res = s.res := rfl
@[simp] theorem delay_fault (n : Nat) (s : State) :
    (delay n s).fault = s.fault := rfl
@[simp] theorem delay_busy (n : Nat) (s : State) :
    (delay n s).busy = s.busy := rfl
@[simp] theorem delay_rqi (n : Nat) (s : State) :
    (delay n s).rqi = s.rqi := rfl
@[simp] theorem delay_trace (n : Nat) (s : State) :
    (delay n s).trace = s.trace ++ [.delay n] := rfl
@[simp] theorem delay_line (n : Nat) (s : State) :
    (delay n s).line = s.line := rfl
@[simp] theorem delay_blit (n : Nat) (s : State) :
    (delay n s).blit = s.blit := rfl
@[simp] theorem delay_streamer (n : Nat) (s : State) :
    (delay n s).streamer = s.streamer := rfl
@[simp] theorem delay_pending (n : Nat) (s : State) :
    (delay n s).pending = s.pending := rfl
@[simp] theorem delay_cfg (n : Nat) (s : State) :
    (delay n s).cfg = s.cfg := rfl
@[simp] theorem delay_requests (n : Nat) (s : State) :
    (delay n s).requests = s.requests := rfl
@[simp] theorem delay_powerOnSignal (n : Nat) (s : State) :
    (delay n s).powerOnSignal = s.powerOnSignal := rfl
@[simp] theorem delay_txScript (n : Nat) (s : State) :
    (delay n s).txScript = s.txScript := rfl
@[simp] theorem delay_txCount (n : Nat) (s : State) :
    (delay n s).txCount = s.txCount := rfl
@[simp] theorem delay_boots (n : Nat) (s : State) :
    (delay n s).boots = s.boots := rfl
@[simp] theorem delay_draws (n : Nat) (s : State) :
    (delay n s).draws = s.draws := rfl
@[simp] theorem delay_halted (n : Nat) (s : State) : (delay n s).halted = s.halted := rfl
@[simp] theorem delay_txOk (n : Nat) (s : State) (j : Nat) : (delay n s).txOk j = s.txOk j := rfl
@[simp] theorem delay_fbByte (n : Nat) (s : State) (addr : Nat) :
    (delay n s).fbByte addr = s.fbByte addr := rfl

/-! `setRState` -/

@[simp] theorem setRState_fb (v : RState) (s : State) :
    (setRState v s).fb = s.fb := rfl
@[simp] theorem setRState_glyphRom (v : RState) (s : State) :
    (setRState v s).glyphRom = s.glyphRom := rfl
@[simp] theorem setRState_rstate (v : RState) (s : State) :
    (setRState v s).rstate = v := rfl
@[simp] theorem setRState_cs (v : RState) (s : State) :
    (setRState v s).cs = s.cs := rfl
@[simp] theorem setRState_dc (v : RState) (s : State) :
    (setRState v s).dc = s.dc := rfl
@[simp] theorem setRState_res (v : RState) (s : State) :
    (setRState v s).res = s.res := rfl
@[simp] theorem setRState_fault (v : RState) (s : State) :
    (setRState v s).fault = s.fault := rfl
@[simp] theorem setRState_busy (v : RState) (s : State) :
    (setRState v s).busy = s.busy := rfl
@[simp] theorem setRState_rqi (v : RState) (s : State) :
    (setRState v s).rqi = s.rqi := rfl
@[simp] theorem setRState_trace (v : RState) (s : State) :
    (setRState v s).trace = s.trace := rfl
@[simp] theorem setRState_line (v : RState) (s : State) :
    (setRState v s).line = s.line := rfl
@[simp] theorem setRState_blit (v : RState) (s : State) :
    (setRState v s).blit = s.blit := rfl
@[simp] theorem setRState_streamer (v : RState) (s : State) :
    (setRState v s).streamer = s.streamer := rfl
@[simp] theorem setRState_pending (v : RState) (s : State) :
    (setRState v s).pending = s.pending := rfl
@[simp] theorem setRState_cfg (v : RState) (s : State) :
    (setRState v s).cfg = s.cfg := rfl
@[simp] theorem setRState_requests (v : RState) (s : State) :
    (setRState v s).requests = s.requests := rfl
@[simp] theorem setRState_powerOnSignal (v : RState) (s : State) :
    (setRState v s).powerOnSignal = s.powerOnSignal := rfl
@[simp] theorem setRState_txScript (v : RState) (s : State) :
    (setRState v s).txScript = s.txScript := rfl
@[simp] theorem setRState_txCount (v : RState) (s : State) :
    (setRState v s).txCount = s.txCount := rfl
@[simp] theorem setRState_boots (v : RState) (s : State) :
    (setRState v s).boots = s.boots := rfl
@[simp] theorem setRState_draws (v : RState) (s : State) :
    (setRState v s).draws = s.draws := rfl
@[simp] theorem setRState_halted (v : RState) (s : State) : (setRState v s).halted = s.halted := rfl
@[simp] theorem setRState_txOk (v : RState) (s : State) (j : Nat) : (setRState v s).txOk j = s.txOk j := rfl
@[simp] theorem setRState_fbByte (v : RState) (s : State) (addr : Nat) :
    (setRState v s).fbByte addr = s.fbByte addr := rfl

/-! `release` -/

@[simp] theorem release_fb (s : State) :
    (release s).fb = s.fb := rfl
@[simp] theorem release_glyphRom (s : State) :
    (release s).glyphRom = s.glyphRom := rfl
@[simp] theorem release_rstate (s : State) :
    (release s).rstate = s.rstate := rfl
@[simp] theorem release_cs (s : State) :
    (release s).cs = s.cs := rfl
@[simp] theorem release_dc (s : State) :
    (release s).dc = s.dc := rfl
@[simp] theorem release_res (s : State) :
    (release s).res = s.res := rfl
@[simp] theorem release_fault (s : State) :
    (release s).fault = s.fault := rfl
@[simp] theorem release_busy (s : State) :
    (release s).busy = false := rfl
@[simp] theorem release_rqi (s : State) :
    (release s).rqi = s.rqi := rfl
@[simp] theorem release_trace (s : State) :
    (release s).trace = s.trace := rfl
@[simp] theorem release_line (s : State) :
    (release s).line = freeLine s.draws := rfl
@[simp] theorem release_blit (s : State) :
    (release s).blit = freeBlit s.draws := rfl
@[simp] theorem release_streamer (s : State) :
    (release s).streamer = freeStream s.draws := rfl
@[simp] theorem release_pending (s : State) :
    (release s).pending = s.pending := rfl
@[simp] theorem release_cfg (s : State) :
    (release s).cfg = s.cfg := rfl
@[simp] theorem release_requests (s : State) :
    (release s).requests = s.requests := rfl
@[simp] theorem release_powerOnSignal (s : State) :
    (release s).powerOnSignal = s.powerOnSignal := rfl
@[simp] theorem release_txScript (s : State) :
    (release s).txScript = s.txScript := rfl
@[simp] theorem release_txCount (s : State) :
    (release s).txCount = s.txCount := rfl
@[simp] theorem release_boots (s : State) :
    (release s).boots = s.boots := rfl
@[simp] theorem release_draws (s : State) :
    (release s).draws = s.draws + 1 := rfl
@[simp] theorem release_halted (s : State) : (release s).halted = s.halted := rfl
@[simp] theorem release_txOk (s : State) (j : Nat) : (release s).txOk j = s.txOk j := rfl
@[simp] theorem release_fbByte (s : State) (addr : Nat) :
    (release s).fbByte addr = s.fbByte addr := rfl

/-! `raise` -/

@[simp] theorem raise_fb (k : FaultKind) (s : State) :
    (raise k s).fb = s.fb := rfl
@[simp] theorem raise_glyphRom (k : FaultKind) (s : State) :
    (raise k s).glyphRom = s.glyphRom := rfl
@[simp] theorem raise_rstate (k : FaultKind) (s : State) :
    (raise k s).rstate = s.rstate := rfl
@[simp] theorem raise_cs (k : FaultKind) (s : State) :
    (raise k s).cs = s.cs := rfl
@[simp] theorem raise_dc (k : FaultKind) (s : State) :
    (raise k s).dc = s.dc := rfl
@[simp] theorem raise_res (k : FaultKind) (s : State) :
    (raise k s).res = s.res := rfl
@[simp] theorem raise_fault (k : FaultKind) (s : State) :
    (raise k s).fault = { kind := some k, rqi := s.rqi } := rfl
@[simp] theorem raise_busy (k : FaultKind) (s : State) :
    (raise k s).busy = false := rfl
@[simp] theorem raise_rqi (k : FaultKind) (s : State) :
    (raise k s).rqi = s.rqi := rfl
@[simp] theorem raise_trace (k : FaultKind) (s : State) :
    (raise k s).trace = s.trace := rfl
@[simp] theorem raise_line (k : FaultKind) (s : State) :
    (raise k s).line = freeLine s.draws := rfl
@[simp] theorem raise_blit (k : FaultKind) (s : State) :
    (raise k s).blit = freeBlit s.draws := rfl
@[simp] theorem raise_streamer (k : FaultKind) (s : State) :
    (raise k s).streamer = freeStream s.draws := rfl
@[simp] theorem raise_pending (k : FaultKind) (s : State) :
    (raise k s).pending = [] := rfl
@[simp] theorem raise_cfg (k : FaultKind) (s : State) :
    (raise k s).cfg = s.cfg := rfl
@[simp] theorem raise_requests (k : FaultKind) (s : State) :
    (raise k s).requests = s.requests := rfl
@[simp] theorem raise_powerOnSignal (k : FaultKind) (s : State) :
    (raise k s).powerOnSignal = s.powerOnSignal := rfl
@[simp] theorem raise_txScript (k : FaultKind) (s : State) :
    (raise k s).txScript = s.txScript := rfl
@[simp] theorem raise_txCount (k : FaultKind) (s : State) :
    (raise k s).txCount = s.txCount := rfl
@[simp] theorem raise_boots (k : FaultKind) (s : State) :
    (raise k s).boots = s.boots := rfl
@[simp] theorem raise_draws (k : FaultKind) (s : State) :
    (raise k s).draws = s.draws + 1 := rfl
@[simp] theorem raise_halted (k : FaultKind) (s : State) : (raise k s).halted = true := rfl
@[simp] theorem raise_txOk (k : FaultKind) (s : State) (j : Nat) : (raise k s).txOk j = s.txOk j := rfl
@[simp] theorem raise_fbByte (k : FaultKind) (s : State) (addr : Nat) :
    (raise k s).fbByte addr = s.fbByte addr := rfl

/-! `takeAnswer` -/

@[simp] theorem takeAnswer_fb (s : State) :
    (takeAnswer s).fb = s.fb := rfl
@[simp] theorem takeAnswer_glyphRom (s : State) :
    (takeAnswer s).glyphRom = s.glyphRom := rfl
@[simp] theorem takeAnswer_rstate (s : State) :
    (takeAnswer s).rstate = s.rstate := rfl
@[simp] theorem takeAnswer_cs (s : State) :
    (takeAnswer s).cs = s.cs := rfl
@[simp] theorem takeAnswer_dc (s : State) :
    (takeAnswer s).dc = s.dc := rfl
@[simp] theorem takeAnswer_res (s : State) :
    (takeAnswer s).res = s.res := rfl
@[simp] theorem takeAnswer_fault (s : State) :
    (takeAnswer s).fault = s.fault := rfl
@[simp] theorem takeAnswer_busy (s : State) :
    (takeAnswer s).busy = s.busy := rfl
@[simp] theorem takeAnswer_rqi (s : State) :
    (takeAnswer s).rqi = s.rqi := rfl
@[simp] theorem takeAnswer_trace (s : State) :
    (takeAnswer s).trace = s.trace := rfl
@[simp] theorem takeAnswer_line (s : State) :
    (takeAnswer s).line = s.line := rfl
@[simp] theorem takeAnswer_blit (s : State) :
    (takeAnswer s).blit = s.blit := rfl
@[simp] theorem takeAnswer_streamer (s : State) :
    (takeAnswer s).streamer = s.streamer := rfl
@[simp] theorem takeAnswer_pending (s : State) :
    (takeAnswer s).pending = s.pending := rfl
@[simp] theorem takeAnswer_cfg (s : State) :
    (takeAnswer s).cfg = s.cfg := rfl
@[simp] theorem takeAnswer_requests (s : State) :
    (takeAnswer s).requests = s.requests := rfl
@[simp] theorem takeAnswer_powerOnSignal (s : State) :
    (takeAnswer s).powerOnSignal = s.powerOnSignal := rfl
@[simp] theorem takeAnswer_txScript (s : State) :
    (takeAnswer s).txScript = s.txScript.tail := rfl
@[simp] theorem takeAnswer_txCount (s : State) :
    (takeAnswer s).txCount = s.txCount + 1 := rfl
@[simp] theorem takeAnswer_boots (s : State) :
    (takeAnswer s).boots = s.boots := rfl
@[simp] theorem takeAnswer_draws (s : State) :
    (takeAnswer s).draws = s.draws := rfl
@[simp] theorem takeAnswer_halted (s : State) : (takeAnswer s).halted = s.halted := rfl
@[simp] theorem takeAnswer_fbByte (s : State) (addr : Nat) :
    (takeAnswer s).fbByte addr = s.fbByte addr := rfl

/-! `setPending` -/

@[simp] theorem setPending_fb (bs : List Byte) (s : State) :
    (setPending bs s).fb = s.fb := rfl
@[simp] theorem setPending_glyphRom (bs : List Byte) (s : State) :
    (setPending bs s).glyphRom = s.glyphRom := rfl
@[simp] theorem setPending_rstate (bs : List Byte) (s : State) :
    (setPending bs s).rstate = s.rstate := rfl
@[simp] theorem setPending_cs (bs : List Byte) (s : State) :
    (setPending bs s).cs = s.cs := rfl
@[simp] theorem setPending_dc (bs : List Byte) (s : State) :
    (setPending bs s).dc = s.dc := rfl
@[simp] theorem setPending_res (bs : List Byte) (s : State) :
    (setPending bs s).res = s.res := rfl
@[simp] theorem setPending_fault (bs : List Byte) (s : State) :
    (setPending bs s).fault = s.fault := rfl
@[simp] theorem setPending_busy (bs : List Byte) (s : State) :
    (setPending bs s).busy = s.busy := rfl
@[simp] theorem setPending_rqi (bs : List Byte) (s : State) :
    (setPending bs s).rqi = s.rqi := rfl
@[simp] theorem setPending_trace (bs : List Byte) (s : State) :
    (setPending bs s).trace = s.trace := rfl
@[simp] theorem setPending_line (bs : List Byte) (s : State) :
    (setPending bs s).line = s.line := rfl
@[simp] theorem setPending_blit (bs : List Byte) (s : State) :
    (setPending bs s).blit = s.blit := rfl
@[simp] theorem setPending_streamer (bs : List Byte) (s : State) :
    (setPending bs s).streamer = s.streamer := rfl
@[simp] theorem setPending_pending (bs : List Byte) (s : State) :
    (setPending bs s).pending = bs := rfl
@[simp] theorem setPending_cfg (bs : List Byte) (s : State) :
    (setPending bs s).cfg = s.cfg := rfl
@[simp] theorem setPending_requests (bs : List Byte) (s : State) :
    (setPending bs s).requests = s.requests := rfl
@[simp] theorem setPending_powerOnSignal (bs : List Byte) (s : State) :
    (setPending bs s).powerOnSignal = s.powerOnSignal := rfl
@[simp] theorem setPending_txScript (bs : List Byte) (s : State) :
    (setPending bs s).txScript = s.txScript := rfl
@[simp] theorem setPending_txCount (bs : List Byte) (s : State) :
    (setPending bs s).txCount = s.txCount := rfl
@[simp] theorem setPending_boots (bs : List Byte) (s : State) :
    (setPending bs s).boots = s.boots := rfl
@[simp] theorem setPending_draws (bs : List Byte) (s : State) :
    (setPending bs s).draws = s.draws := rfl
@[simp] theorem setPending_halted (bs : List Byte) (s : State) : (setPending bs s).halted = s.halted := rfl
@[simp] theorem setPending_txOk (bs : List Byte) (s : State) (j : Nat) : (setPending bs s).txOk j = s.txOk j := rfl
@[simp] theorem setPending_fbByte (bs : List Byte) (s : State) (addr : Nat) :
    (setPending bs s).fbByte addr = s.fbByte addr := rfl

/-! `complete` -/

@[simp] theorem complete_fb (s : State) :
    (complete s).fb = s.fb := rfl
@[simp] theorem complete_glyphRom (s : State) :
    (complete s).glyphRom = s.glyphRom := rfl
@[simp] theorem complete_rstate (s : State) :
    (complete s).rstate = s.rstate := rfl
@[simp] theorem complete_cs (s : State) :
    (complete s).cs = s.cs := rfl
@[simp] theorem complete_dc (s : State) :
    (complete s).dc = s.dc := rfl
@[simp] theorem complete_res (s : State) :
    (complete s).res = s.res := rfl
@[simp] theorem complete_fault (s : State) :
    (complete s).fault = s.fault := rfl
@[simp] theorem complete_busy (s : State) :
    (complete s).busy = false := rfl
@[simp] theorem complete_rqi (s : State) :
    (complete s).rqi = s.rqi + 1 := rfl
@[simp] theorem complete_trace (s : State) :
    (complete s).trace = s.trace := rfl
@[simp] theorem complete_line (s : State) :
    (complete s).line = freeLine s.draws := rfl
@[simp] theorem complete_blit (s : State) :
    (complete s).blit = freeBlit s.draws := rfl
@[simp] theorem complete_streamer (s : State) :
    (complete s).streamer = freeStream s.draws := rfl
@[simp] theorem complete_pending (s : State) :
    (complete s).pending = s.pending := rfl
@[simp] theorem complete_cfg (s : State) :
    (complete s).cfg = s.cfg := rfl
@[simp] theorem complete_requests (s : State) :
    (complete s).requests = s.requests := rfl
@[simp] theorem complete_powerOnSignal (s : State) :
    (complete s).powerOnSignal = s.powerOnSignal := rfl
@[simp] theorem complete_txScript (s : State) :
    (complete s).txScript = s.txScript := rfl
@[simp] theorem complete_txCount (s : State) :
    (complete s).txCount = s.txCount := rfl
@[simp] theorem complete_boots (s : State) :
    (complete s).boots = s.boots := rfl
@[simp] theorem complete_draws (s : State) :
    (complete s).draws = s.draws + 1 := rfl
@[simp] theorem complete_halted (s : State) : (complete s).halted = s.halted := rfl
@[simp] theorem complete_txOk (s : State) (j : Nat) : (complete s).txOk j = s.txOk j := rfl
@[simp] theorem complete_fbByte (s : State) (addr : Nat) :
    (complete s).fbByte addr = s.fbByte addr := rfl

/-! `start` -/

@[simp] theorem start_fb (s : State) :
    (start s).fb = s.fb := rfl
@[simp] theorem start_glyphRom (s : State) :
    (start s).glyphRom = s.glyphRom := rfl
@[simp] theorem start_rstate (s : State) :
    (start s).rstate = s.rstate := rfl
@[simp] theorem start_cs (s : State) :
    (start s).cs = s.cs := rfl
@[simp] theorem start_dc (s : State) :
    (start s).dc = s.dc := rfl
@[simp] theorem start_res (s : State) :
    (start s).res = s.res := rfl
@[simp] theorem start_fault (s : State) :
    (start s).fault = s.fault := rfl
@[simp] theorem start_busy (s : State) :
    (start s).busy = true := rfl
@[simp] theorem start_rqi (s : State) :
    (start s).rqi = s.rqi := rfl
@[simp] theorem start_trace (s : State) :
    (start s).trace = s.trace := rfl
@[simp] theorem start_line (s : State) :
    (start s).line = s.line := rfl
@[simp] theorem start_blit (s : State) :
    (start s).blit = s.blit := rfl
@[simp] theorem start_streamer (s : State) :
    (start s).streamer = s.streamer := rfl
@[simp] theorem start_pending (s : State) :
    (start s).pending = s.pending := rfl
@[simp] theorem start_cfg (s : State) :
    (start s).cfg = s.cfg := rfl
@[simp] theorem start_requests (s : State) :
    (start s).requests = s.requests := rfl
@[simp] theorem start_powerOnSignal (s : State) :
    (start s).powerOnSignal = s.powerOnSignal := rfl
@[simp] theorem start_txScript (s : State) :
    (start s).txScript = s.txScript := rfl
@[simp] theorem start_txCount (s : State) :
    (start s).txCount = s.txCount := rfl
@[simp] theorem start_boots (s : State) :
    (start s).boots = s.boots := rfl
@[simp] theorem start_draws (s : State) :
    (start s).draws = s.draws := rfl
@[simp] theorem start_halted (s : State) : (start s).halted = s.halted := rfl
@[simp] theorem start_txOk (s : State) (j : Nat) : (start s).txOk j = s.txOk j := rfl
@[simp] theorem start_fbByte (s : State) (addr : Nat) :
    (start s).fbByte addr = s.fbByte addr := rfl

/-! `writeWord` -/

@[simp] theorem writeWord_fb (i : Nat) (c : Color) (s : State) :
    (writeWord i c s).fb = (s.fb.write (2 * i) (hi c)).write (2 * i + 1) (lo c) := rfl
@[simp] theorem writeWord_glyphRom (i : Nat) (c : Color) (s : State) :
    (writeWord i c s).glyphRom = s.glyphRom := rfl
@[simp] theorem writeWord_rstate (i : Nat) (c : Color) (s : State) :
    (writeWord i c s).rstate = s.rstate := rfl
@[simp] theorem writeWord_cs (i : Nat) (c : Color) (s : State) :
    (writeWord i c s).cs = s.cs := rfl
@[simp] theorem writeWord_dc (i : Nat) (c : Color) (s : State) :
    (writeWord i c s).dc = s.dc := rfl
@[simp] theorem writeWord_res (i : Nat) (c : Color) (s : State) :
    (writeWord i c s).res = s.res := rfl
@[simp] theorem writeWord_fault (i : Nat) (c : Color) (s : State) :
    (writeWord i c s).fault = s.fault := rfl
@[simp] theorem writeWord_busy (i : Nat) (c : Color) (s : State) :
    (writeWord i c s).busy = s.busy := rfl
@[simp] theorem writeWord_rqi (i : Nat) (c : Color) (s : State) :
    (writeWord i c s).rqi = s.rqi := rfl
@[simp] theorem writeWord_trace (i : Nat) (c : Color) (s : State) :
    (writeWord i c s).trace = s.trace := rfl
@[simp] theorem writeWord_line (i : Nat) (c : Color) (s : State) :
    (writeWord i c s).line = s.line := rfl
@[simp] theorem writeWord_blit (i : Nat) (c : Color) (s : State) :
    (writeWord i c s).blit = s.blit := rfl
@[simp] theorem writeWord_streamer (i : Nat) (c : Color) (s : State) :
    (writeWord i c s).streamer = s.streamer := rfl
@[simp] theorem writeWord_pending (i : Nat) (c : Color) (s : State) :
    (writeWord i c s).pending = s.pending := rfl
@[simp] theorem writeWord_cfg (i : Nat) (c : Color) (s : State) :
    (writeWord i c s).cfg = s.cfg := rfl
@[simp] theorem writeWord_requests (i : Nat) (c : Color) (s : State) :
    (writeWord i c s).requests = s.requests := rfl
@[simp] theorem writeWord_powerOnSignal (i : Nat) (c : Color) (s : State) :
    (writeWord i c s).powerOnSignal = s.powerOnSignal := rfl
@[simp] theorem writeWord_txScript (i : Nat) (c : Color) (s : State) :
    (writeWord i c s).txScript = s.txScript := rfl
@[simp] theorem writeWord_txCount (i : Nat) (c : Color) (s : State) :
    (writeWord i c s).txCount = s.txCount := rfl
@[simp] theorem writeWord_boots (i : Nat) (c : Color) (s : State) :
    (writeWord i c s).boots = s.boots := rfl
@[simp] theorem writeWord_draws (i : Nat) (c : Color) (s : State) :
    (writeWord i c s).draws = s.draws := rfl
@[simp] theorem writeWord_halted (i : Nat) (c : Color) (s : State) : (writeWord i c s).halted = s.halted := rfl
@[simp] theorem writeWord_txOk (i : Nat) (c : Color) (s : State) (j : Nat) : (writeWord i c s).txOk j = s.txOk j := rfl

/-! `fillAll` -/

@[simp] theorem fillAll_fb (c : Color) (s : State) :
    (fillAll c s).fb = Memory.filled c 0 fbWords := rfl
@[simp] theorem fillAll_glyphRom (c : Color) (s : State) :
    (fillAll c s).glyphRom = s.glyphRom := rfl
@[simp] theorem fillAll_rstate (c : Color) (s : State) :
    (fillAll c s).rstate = s.rstate := rfl
@[simp] theorem fillAll_cs (c : Color) (s : State) :
    (fillAll c s).cs = s.cs := rfl
@[simp] theorem fillAll_dc (c : Color) (s : State) :
    (fillAll c s).dc = s.dc := rfl
@[simp] theorem fillAll_res (c : Color) (s : State) :
    (fillAll c s).res = s.res := rfl
@[simp] theorem fillAll_fault (c : Color) (s : State) :
    (fillAll c s).fault = s.fault := rfl
@[simp] theorem fillAll_busy (c : Color) (s : State) :
    (fillAll c s).busy = s.busy := rfl
@[simp] theorem fillAll_rqi (c : Color) (s : State) :
    (fillAll c s).rqi = s.rqi := rfl
@[simp] theorem fillAll_trace (c : Color) (s : State) :
    (fillAll c s).trace = s.trace := rfl
@[simp] theorem fillAll_line (c : Color) (s : State) :
    (fillAll c s).line = s.line := rfl
@[simp] theorem fillAll_blit (c : Color) (s : State) :
    (fillAll c s).blit = s.blit := rfl
@[simp] theorem fillAll_streamer (c : Color) (s : State) :
    (fillAll c s).streamer = s.streamer := rfl
@[simp] theorem fillAll_pending (c : Color) (s : State) :
    (fillAll c s).pending = s.pending := rfl
@[simp] theorem fillAll_cfg (c : Color) (s : State) :
    (fillAll c s).cfg = s.cfg := rfl
@[simp] theorem fillAll_requests (c : Color) (s : State) :
    (fillAll c s).requests = s.requests := rfl
@[simp] theorem fillAll_powerOnSignal (c : Color) (s : State) :
    (fillAll c s).powerOnSignal = s.powerOnSignal := rfl
@[simp] theorem fillAll_txScript (c : Color) (s : State) :
    (fillAll c s).txScript = s.txScript := rfl
@[simp] theorem fillAll_txCount (c : Color) (s : State) :
    (fillAll c s).txCount = s.txCount := rfl
@[simp] theorem fillAll_boots (c : Color) (s : State) :
    (fillAll c s).boots = s.boots := rfl
@[simp] theorem fillAll_draws (c : Color) (s : State) :
    (fillAll c s).draws = s.draws := rfl
@[simp] theorem fillAll_halted (c : Color) (s : State) : (fillAll c s).halted = s.halted := rfl
@[simp] theorem fillAll_txOk (c : Color) (s : State) (j : Nat) : (fillAll c s).txOk j = s.txOk j := rfl

/-! `latchArea` -/

@[simp] theorem latchArea_fb (a : RenderArea) (s : State) :
    (latchArea a s).fb = s.fb := rfl
@[simp] theorem latchArea_glyphRom (a : RenderArea) (s : State) :
    (latchArea a s).glyphRom = s.glyphRom := rfl
@[simp] theorem latchArea_rstate (a : RenderArea) (s : State) :
    (latchArea a s).rstate = s.rstate := rfl
@[simp] theorem latchArea_cs (a : RenderArea) (s : State) :
    (latchArea a s).cs = s.cs := rfl
@[simp] theorem latchArea_dc (a : RenderArea) (s : State) :
    (latchArea a s).dc = s.dc := rfl
@[simp] theorem latchArea_res (a : RenderArea) (s : State) :
    (latchArea a s).res = s.res := rfl
@[simp] theorem latchArea_fault (a : RenderArea) (s : State) :
    (latchArea a s).fault = s.fault := rfl
@[simp] theorem latchArea_busy (a : RenderArea) (s : State) :
    (latchArea a s).busy = s.busy := rfl
@[simp] theorem latchArea_rqi (a : RenderArea) (s : State) :
    (latchArea a s).rqi = s.rqi := rfl
@[simp] theorem latchArea_trace (a : RenderArea) (s : State) :
    (latchArea a s).trace = s.trace := rfl
@[simp] theorem latchArea_line (a : RenderArea) (s : State) :
    (latchArea a s).line = s.line := rfl
@[simp] theorem latchArea_blit (a : RenderArea) (s : State) :
    (latchArea a s).blit = s.blit := rfl
@[simp] theorem latchArea_streamer (a : RenderArea) (s : State) :
    (latchArea a s).streamer = { area := a, byteLength := a.byteLength, row := a.startRow.toNat, col := a.startCol.toNat } := rfl
@[simp] theorem latchArea_pending (a : RenderArea) (s : State) :
    (latchArea a s).pending = s.pending := rfl
@[simp] theorem latchArea_cfg (a : RenderArea) (s : State) :
    (latchArea a s).cfg = s.cfg := rfl
@[simp] theorem latchArea_requests (a : RenderArea) (s : State) :
    (latchArea a s).requests = s.requests := rfl
@[simp] theorem latchArea_powerOnSignal (a : RenderArea) (s : State) :
    (latchArea a s).powerOnSignal = s.powerOnSignal := rfl
@[simp] theorem latchArea_txScript (a : RenderArea) (s : State) :
    (latchArea a s).txScript = s.txScript := rfl
@[simp] theorem latchArea_txCount (a : RenderArea) (s : State) :
    (latchArea a s).txCount = s.txCount := rfl
@[simp] theorem latchArea_boots (a : RenderArea) (s : State) :
    (latchArea a s).boots = s.boots := rfl
@[simp] theorem latchArea_draws (a : RenderArea) (s : State) :
    (latchArea a s).draws = s.draws := rfl
@[simp] theorem latchArea_halted (a : RenderArea) (s : State) : (latchArea a s).halted = s.halted := rfl
@[simp] theorem latchArea_txOk (a : RenderArea) (s : State) (j : Nat) : (latchArea a s).txOk j = s.txOk j := rfl
@[simp] theorem latchArea_fbByte (a : RenderArea) (s : State) (addr : Nat) :
    (latchArea a s).fbByte addr = s.fbByte addr := rfl

/-! `endCounters` -/

@[simp] theorem endCounters_fb (a : RenderArea) (s : State) :
    (endCounters a s).fb = s.fb := rfl
@[simp] theorem endCounters_glyphRom (a : RenderArea) (s : State) :
    (endCounters a s).glyphRom = s.glyphRom := rfl
@[simp] theorem endCounters_rstate (a : RenderArea) (s : State) :
    (endCounters a s).rstate = s.rstate := rfl
@[simp] theorem endCounters_cs (a : RenderArea) (s : State) :
    (endCounters a s).cs = s.cs := rfl
@[simp] theorem endCounters_dc (a : RenderArea) (s : State) :
    (endCounters a s).dc = s.dc := rfl
@[simp] theorem endCounters_res (a : RenderArea) (s : State) :
    (endCounters a s).res = s.res := rfl
@[simp] theorem endCounters_fault (a : RenderArea) (s : State) :
    (endCounters a s).fault = s.fault := rfl
@[simp] theorem endCounters_busy (a : RenderArea) (s : State) :
    (endCounters a s).busy = s.busy := rfl
@[simp] theorem endCounters_rqi (a : RenderArea) (s : State) :
    (endCounters a s).rqi = s.rqi := rfl
@[simp] theorem endCounters_trace (a : RenderArea) (s : State) :
    (endCounters a s).trace = s.trace := rfl
@[simp] theorem endCounters_line (a : RenderArea) (s : State) :
    (endCounters a s).line = s.line := rfl
@[simp] theorem endCounters_blit (a : RenderArea) (s : State) :
    (endCounters a s).blit = s.blit := rfl
@[simp] theorem endCounters_streamer (a : RenderArea) (s : State) :
    (endCounters a s).streamer = { s.streamer with row := a.endRow.toNat, col := a.endCol.toNat } := rfl
@[simp] theorem endCounters_pending (a : RenderArea) (s : State) :
    (endCounters a s).pending = s.pending := rfl
@[simp] theorem endCounters_cfg (a : RenderArea) (s : State) :
    (endCounters a s).cfg = s.cfg := rfl
@[simp] theorem endCounters_requests (a : RenderArea) (s : State) :
    (endCounters a s).requests = s.requests := rfl
@[simp] theorem endCounters_powerOnSignal (a : RenderArea) (s : State) :
    (endCounters a s).powerOnSignal = s.powerOnSignal := rfl
@[simp] theorem endCounters_txScript (a : RenderArea) (s : State) :
    (endCounters a s).txScript = s.txScript := rfl
@[simp] theorem endCounters_txCount (a : RenderArea) (s : State) :
    (endCounters a s).txCount = s.txCount := rfl
@[simp] theorem endCounters_boots (a : RenderArea) (s : State) :
    (endCounters a s).boots = s.boots := rfl
@[simp] theorem endCounters_draws (a : RenderArea) (s : State) :
    (endCounters a s).draws = s.draws := rfl
@[simp] theorem endCounters_halted (a : RenderArea) (s : State) : (endCounters a s).halted = s.halted := rfl
@[simp] theorem endCounters_txOk (a : RenderArea) (s : State) (j : Nat) : (endCounters a s).txOk j = s.txOk j := rfl
@[simp] theorem endCounters_fbByte (a : RenderArea) (s : State) (addr : Nat) :
    (endCounters a s).fbByte addr = s.fbByte addr := rfl

/-! `setLine` -/

@[simp] theorem setLine_fb (r : LineRegs) (s : State) :
    (setLine r s).fb = s.fb := rfl
@[simp] theorem setLine_glyphRom (r : LineRegs) (s : State) :
    (setLine r s).glyphRom = s.glyphRom := rfl
@[simp] theorem setLine_rstate (r : LineRegs) (s : State) :
    (setLine r s).rstate = s.rstate := rfl
@[simp] theorem setLine_cs (r : LineRegs) (s : State) :
    (setLine r s).cs = s.cs := rfl
@[simp] theorem setLine_dc (r : LineRegs) (s : State) :
    (setLine r s).dc = s.dc := rfl
@[simp] theorem setLine_res (r : LineRegs) (s : State) :
    (setLine r s).res = s.res := rfl
@[simp] theorem setLine_fault (r : LineRegs) (s : State) :
    (setLine r s).fault = s.fault := rfl
@[simp] theorem setLine_busy (r : LineRegs) (s : State) :
    (setLine r s).busy = s.busy := rfl
@[simp] theorem setLine_rqi (r : LineRegs) (s : State) :
    (setLine r s).rqi = s.rqi := rfl
@[simp] theorem setLine_trace (r : LineRegs) (s : State) :
    (setLine r s).trace = s.trace := rfl
@[simp] theorem setLine_line (r : LineRegs) (s : State) :
    (setLine r s).line = r := rfl
@[simp] theorem setLine_blit (r : LineRegs) (s : State) :
    (setLine r s).blit = s.blit := rfl
@[simp] theorem setLine_streamer (r : LineRegs) (s : State) :
    (setLine r s).streamer = s.streamer := rfl
@[simp] theorem setLine_pending (r : LineRegs) (s : State) :
    (setLine r s).pending = s.pending := rfl
@[simp] theorem setLine_cfg (r : LineRegs) (s : State) :
    (setLine r s).cfg = s.cfg := rfl
@[simp] theorem setLine_requests (r : LineRegs) (s : State) :
    (setLine r s).requests = s.requests := rfl
@[simp] theorem setLine_powerOnSignal (r : LineRegs) (s : State) :
    (setLine r s).powerOnSignal = s.powerOnSignal := rfl
@[simp] theorem setLine_txScript (r : LineRegs) (s : State) :
    (setLine r s).txScript = s.txScript := rfl
@[simp] theorem setLine_txCount (r : LineRegs) (s : State) :
    (setLine r s).txCount = s.txCount := rfl
@[simp] theorem setLine_boots (r : LineRegs) (s : State) :
    (setLine r s).boots = s.boots := rfl
@[simp] theorem setLine_draws (r : LineRegs) (s : State) :
    (setLine r s).draws = s.draws := rfl
@[simp] theorem setLine_halted (r : LineRegs) (s : State) : (setLine r s).halted = s.halted := rfl
@[simp] theorem setLine_txOk (r : LineRegs) (s : State) (j : Nat) : (setLine r s).txOk j = s.txOk j := rfl
@[simp] theorem setLine_fbByte (r : LineRegs) (s : State) (addr : Nat) :
    (setLine r s).fbByte addr = s.fbByte addr := rfl

/-! `setGlyph` -/

@[simp] theorem setGlyph_fb (g : Fin 39) (s : State) :
    (setGlyph g s).fb = s.fb := rfl
@[simp] theorem setGlyph_glyphRom (g : Fin 39) (s : State) :
    (setGlyph g s).glyphRom = s.glyphRom := rfl
@[simp] theorem setGlyph_rstate (g : Fin 39) (s : State) :
    (setGlyph g s).rstate = s.rstate := rfl
@[simp] theorem setGlyph_cs (g : Fin 39) (s : State) :
    (setGlyph g s).cs = s.cs := rfl
@[simp] theorem setGlyph_dc (g : Fin 39) (s : State) :
    (setGlyph g s).dc = s.dc := rfl
@[simp] theorem setGlyph_res (g : Fin 39) (s : State) :
    (setGlyph g s).res = s.res := rfl
@[simp] theorem setGlyph_fault (g : Fin 39) (s : State) :
    (setGlyph g s).fault = s.fault := rfl
@[simp] theorem setGlyph_busy (g : Fin 39) (s : State) :
    (setGlyph g s).busy = s.busy := rfl
@[simp] theorem setGlyph_rqi (g : Fin 39) (s : State) :
    (setGlyph g s).rqi = s.rqi := rfl
@[simp] theorem setGlyph_trace (g : Fin 39) (s : State) :
    (setGlyph g s).trace = s.trace := rfl
@[simp] theorem setGlyph_line (g : Fin 39) (s : State) :
    (setGlyph g s).line = s.line := rfl
@[simp] theorem setGlyph_blit (g : Fin 39) (s : State) :
    (setGlyph g s).blit = { s.blit with g := g } := rfl
@[simp] theorem setGlyph_streamer (g : Fin 39) (s : State) :
    (setGlyph g s).streamer = s.streamer := rfl
@[simp] theorem setGlyph_pending (g : Fin 39) (s : State) :
    (setGlyph g s).pending = s.pending := rfl
@[simp] theorem setGlyph_cfg (g : Fin 39) (s : State) :
    (setGlyph g s).cfg = s.cfg := rfl
@[simp] theorem setGlyph_requests (g : Fin 39) (s : State) :
    (setGlyph g s).requests = s.requests := rfl
@[simp] theorem setGlyph_powerOnSignal (g : Fin 39) (s : State) :
    (setGlyph g s).powerOnSignal = s.powerOnSignal := rfl
@[simp] theorem setGlyph_txScript (g : Fin 39) (s : State) :
    (setGlyph g s).txScript = s.txScript := rfl
@[simp] theorem setGlyph_txCount (g : Fin 39) (s : State) :
    (setGlyph g s).txCount = s.txCount := rfl
@[simp] theorem setGlyph_boots (g : Fin 39) (s : State) :
    (setGlyph g s).boots = s.boots := rfl
@[simp] theorem setGlyph_draws (g : Fin 39) (s : State) :
    (setGlyph g s).draws = s.draws := rfl
@[simp] theorem setGlyph_halted (g : Fin 39) (s : State) : (setGlyph g s).halted = s.halted := rfl
@[simp] theorem setGlyph_txOk (g : Fin 39) (s : State) (j : Nat) : (setGlyph g s).txOk j = s.txOk j := rfl
@[simp] theorem setGlyph_fbByte (g : Fin 39) (s : State) (addr : Nat) :
    (setGlyph g s).fbByte addr = s.fbByte addr := rfl

/-! `setCell` -/

@[simp] theorem setCell_fb (p : Fin 8 × Fin 8) (s : State) :
    (setCell p s).fb = s.fb := rfl
@[simp] theorem setCell_glyphRom (p : Fin 8 × Fin 8) (s : State) :
    (setCell p s).glyphRom = s.glyphRom := rfl
@[simp] theorem setCell_rstate (p : Fin 8 × Fin 8) (s : State) :
    (setCell p s).rstate = s.rstate := rfl
@[simp] theorem setCell_cs (p : Fin 8 × Fin 8) (s : State) :
    (setCell p s).cs = s.cs := rfl
@[simp] theorem setCell_dc (p : Fin 8 × Fin 8) (s : State) :
    (setCell p s).dc = s.dc := rfl
@[simp] theorem setCell_res (p : Fin 8 × Fin 8) (s : State) :
    (setCell p s).res = s.res := rfl
@[simp] theorem setCell_fault (p : Fin 8 × Fin 8) (s : State) :
    (setCell p s).fault = s.fault := rfl
@[simp] theorem setCell_busy (p : Fin 8 × Fin 8) (s : State) :
    (setCell p s).busy = s.busy := rfl
@[simp] theorem setCell_rqi (p : Fin 8 × Fin 8) (s : State) :
    (setCell p s).rqi = s.rqi := rfl
@[simp] theorem setCell_trace (p : Fin 8 × Fin 8) (s : State) :
    (setCell p s).trace = s.trace := rfl
@[simp] theorem setCell_line (p : Fin 8 × Fin 8) (s : State) :
    (setCell p s).line = s.line := rfl
@[simp] theorem setCell_blit (p : Fin 8 × Fin 8) (s : State) :
    (setCell p s).blit = { s.blit with row := p.1, col := p.2 } := rfl
@[simp] theorem setCell_streamer (p : Fin 8 × Fin 8) (s : State) :
    (setCell p s).streamer = s.streamer := rfl
@[simp] theorem setCell_pending (p : Fin 8 × Fin 8) (s : State) :
    (setCell p s).pending = s.pending := rfl
@[simp] theorem setCell_cfg (p : Fin 8 × Fin 8) (s : State) :
    (setCell p s).cfg = s.cfg := rfl
@[simp] theorem setCell_requests (p : Fin 8 × Fin 8) (s : State) :
    (setCell p s).requests = s.requests := rfl
@[simp] theorem setCell_powerOnSignal (p : Fin 8 × Fin 8) (s : State) :
    (setCell p s).powerOnSignal = s.powerOnSignal := rfl
@[simp] theorem setCell_txScript (p : Fin 8 × Fin 8) (s : State) :
    (setCell p s).txScript = s.txScript := rfl
@[simp] theorem setCell_txCount (p : Fin 8 × Fin 8) (s : State) :
    (setCell p s).txCount = s.txCount := rfl
@[simp] theorem setCell_boots (p : Fin 8 × Fin 8) (s : State) :
    (setCell p s).boots = s.boots := rfl
@[simp] theorem setCell_draws (p : Fin 8 × Fin 8) (s : State) :
    (setCell p s).draws = s.draws := rfl
@[simp] theorem setCell_halted (p : Fin 8 × Fin 8) (s : State) : (setCell p s).halted = s.halted := rfl
@[simp] theorem setCell_txOk (p : Fin 8 × Fin 8) (s : State) (j : Nat) : (setCell p s).txOk j = s.txOk j := rfl
@[simp] theorem setCell_fbByte (p : Fin 8 × Fin 8) (s : State) (addr : Nat) :
    (setCell p s).fbByte addr = s.fbByte addr := rfl

/-! `setOrigin` -/

@[simp] theorem setOrigin_fb (k : Nat) (cx : Int) (s : State) :
    (setOrigin k cx s).fb = s.fb := rfl
@[simp] theorem setOrigin_glyphRom (k : Nat) (cx : Int) (s : State) :
    (setOrigin k cx s).glyphRom = s.glyphRom := rfl
@[simp] theorem setOrigin_rstate (k : Nat) (cx : Int) (s : State) :
    (setOrigin k cx s).rstate = s.rstate := rfl
@[simp] theorem setOrigin_cs (k : Nat) (cx : Int) (s : State) :
    (setOrigin k cx s).cs = s.cs := rfl
@[simp] theorem setOrigin_dc (k : Nat) (cx : Int) (s : State) :
    (setOrigin k cx s).dc = s.dc := rfl
@[simp] theorem setOrigin_res (k : Nat) (cx : Int) (s : State) :
    (setOrigin k cx s).res = s.res := rfl
@[simp] theorem setOrigin_fault (k : Nat) (cx : Int) (s : State) :
    (setOrigin k cx s).fault = s.fault := rfl
@[simp] theorem setOrigin_busy (k : Nat) (cx : Int) (s : State) :
    (setOrigin k cx s).busy = s.busy := rfl
@[simp] theorem setOrigin_rqi (k : Nat) (cx : Int) (s : State) :
    (setOrigin k cx s).rqi = s.rqi := rfl
@[simp] theorem setOrigin_trace (k : Nat) (cx : Int) (s : State) :
    (setOrigin k cx s).trace = s.trace := rfl
@[simp] theorem setOrigin_line (k : Nat) (cx : Int) (s : State) :
    (setOrigin k cx s).line = s.line := rfl
@[simp] theorem setOrigin_blit (k : Nat) (cx : Int) (s : State) :
    (setOrigin k cx s).blit = { s.blit with k := k, cx := cx } := rfl
@[simp] theorem setOrigin_streamer (k : Nat) (cx : Int) (s : State) :
    (setOrigin k cx s).streamer = s.streamer := rfl
@[simp] theorem setOrigin_pending (k : Nat) (cx : Int) (s : State) :
    (setOrigin k cx s).pending = s.pending := rfl
@[simp] theorem setOrigin_cfg (k : Nat) (cx : Int) (s : State) :
    (setOrigin k cx s).cfg = s.cfg := rfl
@[simp] theorem setOrigin_requests (k : Nat) (cx : Int) (s : State) :
    (setOrigin k cx s).requests = s.requests := rfl
@[simp] theorem setOrigin_powerOnSignal (k : Nat) (cx : Int) (s : State) :
    (setOrigin k cx s).powerOnSignal = s.powerOnSignal := rfl
@[simp] theorem setOrigin_txScript (k : Nat) (cx : Int) (s : State) :
    (setOrigin k cx s).txScript = s.txScript := rfl
@[simp] theorem setOrigin_txCount (k : Nat) (cx : Int) (s : State) :
    (setOrigin k cx s).txCount = s.txCount := rfl
@[simp] theorem setOrigin_boots (k : Nat) (cx : Int) (s : State) :
    (setOrigin k cx s).boots = s.boots := rfl
@[simp] theorem setOrigin_draws (k : Nat) (cx : Int) (s : State) :
    (setOrigin k cx s).draws = s.draws := rfl
@[simp] theorem setOrigin_halted (k : Nat) (cx : Int) (s : State) : (setOrigin k cx s).halted = s.halted := rfl
@[simp] theorem setOrigin_txOk (k : Nat) (cx : Int) (s : State) (j : Nat) : (setOrigin k cx s).txOk j = s.txOk j := rfl
@[simp] theorem setOrigin_fbByte (k : Nat) (cx : Int) (s : State) (addr : Nat) :
    (setOrigin k cx s).fbByte addr = s.fbByte addr := rfl

/-! `andThen` -/

@[simp] theorem andThen_live {s : State} (h : s.halted = false) (f : State → State) : s.andThen f = f s := by
  simp [State.andThen, h]

@[simp] theorem andThen_halted {s : State} (h : s.halted = true) (f : State → State) : s.andThen f = s := by
  simp [State.andThen, h]

end Sys2Proof.Machine
end

