-- ==== Sys2Proof/Laws/Channel.lean ====
section
/-! SUPPORT. What the command channel can do (41_command_channel.md R130 to R133): each operation either sends all
its bytes or stops at the first transfer that fails, and nothing else. -/

namespace Sys2Proof.Machine

open Sys2Proof.Safety

/-- One answer further, the answers still to come move up by one. -/
@[simp] theorem takeAnswer_txOk (s : State) (k : Nat) : (takeAnswer s).txOk k = s.txOk (k + 1) := by
  simp only [State.txOk, takeAnswer, List.getElem?_tail, Nat.add_assoc, Nat.add_comm 1 k]

/-- `Tx` on ok (41 R133). -/
theorem tx_ok (k : FaultKind) (bs : List Byte) {s : State} (h : s.txOk 0 = true) :
    tx k bs s = logEvent (.tx bs) (takeAnswer s) := by simp [tx, h]

/-- `Tx` on fail (41 R133). -/
theorem tx_fail (k : FaultKind) (bs : List Byte) {s : State} (h : s.txOk 0 = false) :
    tx k bs s = raise k (logEvent (.txFail bs) (takeAnswer s)) := by simp [tx, h]

/-- The state after one command byte has been sent (41 R130). -/
def afterCommand (b : Byte) (s : State) : State :=
  { s with
    cs := .deasserted, dc := .data, trace := s.trace ++ commandEvents b
    txScript := s.txScript.tail, txCount := s.txCount + 1 }

@[simp] theorem afterCommand_halted (b : Byte) (s : State) : (afterCommand b s).halted = s.halted := rfl

@[simp] theorem afterCommand_txOk (b : Byte) (s : State) (k : Nat) : (afterCommand b s).txOk k = s.txOk (k + 1) :=
  takeAnswer_txOk s k

/-- The state in which the transfer of a command byte has failed and the block stops (41 R130, R133, 60 R268). -/
def commandFailure (k : FaultKind) (b : Byte) (s : State) : State :=
  raise k { s with
    cs := .asserted, dc := .command, trace := s.trace ++ failedCommandEvents b
    txScript := s.txScript.tail, txCount := s.txCount + 1 }

theorem sendCommand_ok (k : FaultKind) (b : Byte) {s : State} (hl : s.halted = false) (h : s.txOk 0 = true) :
    sendCommand k b s = afterCommand b s := by
  rw [sendCommand, tx_ok k [b] (by simpa using h), andThen_live (by simpa using hl)]
  simp [afterCommand, setCS, setDC, logEvent, takeAnswer, commandEvents]

theorem sendCommand_fail (k : FaultKind) (b : Byte) {s : State} (h : s.txOk 0 = false) :
    sendCommand k b s = commandFailure k b s := by
  rw [sendCommand, tx_fail k [b] (by simpa using h), andThen_halted (by simp)]
  simp [commandFailure, setCS, setDC, logEvent, takeAnswer, failedCommandEvents]

/-- The state after a command sequence has been sent (41 R131). -/
def afterSequence (outer bs : List Byte) (s : State) : State :=
  { s with
    cs := if bs = [] then s.cs else .deasserted
    dc := if bs = [] then s.dc else .data
    trace := s.trace ++ sequenceEvents bs
    pending := if bs = [] then s.pending else outer
    txScript := s.txScript.drop bs.length
    txCount := s.txCount + bs.length }

/-- The state in which entry `j` of a command sequence has failed and the block stops (41 R131). -/
def sequenceFailure (k : FaultKind) (bs : List Byte) (j : Nat) (h : j < bs.length) (s : State) : State :=
  raise k { s with
    cs := .asserted, dc := .command
    trace := s.trace ++ sequenceEvents (bs.take j) ++ failedCommandEvents bs[j]
    txScript := s.txScript.drop (j + 1), txCount := s.txCount + (j + 1) }

theorem afterSequence_nil (outer : List Byte) (s : State) : afterSequence outer [] s = s := by
  simp [afterSequence, sequenceEvents]

theorem afterSequence_cons (outer : List Byte) (b : Byte) (bs : List Byte) (s : State) :
    afterSequence outer bs (afterCommand b (setPending (bs ++ outer) s)) = afterSequence outer (b :: bs) s := by
  by_cases h : bs = [] <;>
    simp [h, afterSequence, afterCommand, setPending, sequenceEvents, Nat.add_comm, Nat.add_assoc,
      ← List.drop_one, List.drop_drop]

theorem sendFrom_ok (k : FaultKind) (outer bs : List Byte) {s : State} (hl : s.halted = false)
    (h : txAllOk s bs.length) : sendFrom k outer bs s = afterSequence outer bs s := by
  induction bs generalizing s with
  | nil => simp [sendFrom, afterSequence_nil]
  | cons b bs ih =>
    rw [sendFrom, sendCommand_ok k b (by simpa using hl) (by simpa using h 0 (by simp)),
      andThen_live (by simpa using hl), ih (by simpa using hl)
        (fun j hj => by simpa using h (j + 1) (by simpa using hj)), afterSequence_cons]

theorem sendFrom_fail (k : FaultKind) (outer bs : List Byte) (j : Nat) {s : State} (hj : j < bs.length)
    (hl : s.halted = false) (h : txFailsAt s j) : sendFrom k outer bs s = sequenceFailure k bs j hj s := by
  induction bs generalizing s j with
  | nil => simp at hj
  | cons b bs ih =>
    cases j with
    | zero =>
      rw [sendFrom, sendCommand_fail k b (by simpa using h.2), andThen_halted (by simp [commandFailure])]
      simp [commandFailure, sequenceFailure, sequenceEvents, raise, release, setPending]
    | succ j =>
      rw [sendFrom, sendCommand_ok k b (by simpa using hl) (by simpa using h.1 0 (by simp)),
        andThen_live (by simpa using hl),
        ih j (by simpa using hj) (by simpa using hl)
          ⟨fun i hi => by simpa using h.1 (i + 1) (by omega), by simpa using h.2⟩]
      simp [sequenceFailure, sequenceEvents, raise, release, afterCommand, setPending,
        Nat.add_comm, Nat.add_left_comm, ← List.drop_one, List.drop_drop]

theorem sendSequence_ok (k : FaultKind) (bs : List Byte) {s : State} (hl : s.halted = false)
    (h : txAllOk s bs.length) : sendSequence k bs s = afterSequence s.pending bs s := sendFrom_ok k _ bs hl h

theorem sendSequence_fail (k : FaultKind) (bs : List Byte) (j : Nat) {s : State} (hj : j < bs.length)
    (hl : s.halted = false) (h : txFailsAt s j) : sendSequence k bs s = sequenceFailure k bs j hj s :=
  sendFrom_fail k _ bs j hj hl h

/-- The first failure among the next `n` transfers, if there is one. -/
theorem txAllOk_or_fails (s : State) (n : Nat) : txAllOk s n ∨ ∃ j < n, txFailsAt s j := by
  induction n with
  | zero => exact .inl fun k hk => absurd hk (Nat.not_lt_zero k)
  | succ n ih =>
    rcases ih with h | ⟨j, hj, h⟩
    · cases hn : s.txOk n with
      | true => exact .inl fun k hk => (Nat.lt_succ_iff_lt_or_eq.mp hk).elim (h k) (fun e => e ▸ hn)
      | false => exact .inr ⟨n, Nat.lt_succ_self n, h, hn⟩
    · exact .inr ⟨j, Nat.lt_succ_of_lt hj, h⟩

/-- All a command sequence can do. -/
theorem sendSequence_cases (k : FaultKind) (bs : List Byte) {s : State} (hl : s.halted = false) :
    (txAllOk s bs.length ∧ sendSequence k bs s = afterSequence s.pending bs s) ∨
    ∃ (j : Nat) (hj : j < bs.length), txFailsAt s j ∧ sendSequence k bs s = sequenceFailure k bs j hj s := by
  rcases txAllOk_or_fails s bs.length with h | ⟨j, hj, h⟩
  · exact .inl ⟨h, sendSequence_ok k bs hl h⟩
  · exact .inr ⟨j, hj, h, sendSequence_fail k bs j hj hl h⟩

@[simp] theorem afterSequence_halted (outer bs : List Byte) (s : State) :
    (afterSequence outer bs s).halted = s.halted := rfl

@[simp] theorem sequenceFailure_halted (k : FaultKind) (bs : List Byte) (j : Nat) (hj : j < bs.length) (s : State) :
    (sequenceFailure k bs j hj s).halted = true := rfl

@[simp] theorem commandFailure_halted (k : FaultKind) (b : Byte) (s : State) :
    (commandFailure k b s).halted = true := rfl

/-- The answers still to come after a sequence has been sent. -/
@[simp] theorem afterSequence_txOk (outer bs : List Byte) (s : State) (j : Nat) :
    (afterSequence outer bs s).txOk j = s.txOk (bs.length + j) := by
  simp [State.txOk, afterSequence, List.getElem?_drop, Nat.add_assoc]

/-- The state after a pixel burst has been sent (41 R132). -/
def afterBurst (bs : List Byte) (s : State) : State :=
  { s with
    cs := .deasserted, dc := .data, trace := s.trace ++ burstEvents bs
    txScript := s.txScript.tail, txCount := s.txCount + 1 }

/-- The state in which the transfer of a pixel burst has failed and the block stops (41 R132, R133). -/
def burstFailure (k : FaultKind) (bs : List Byte) (s : State) : State :=
  raise k { s with
    cs := .asserted, dc := .data, trace := s.trace ++ failedBurstEvents bs
    txScript := s.txScript.tail, txCount := s.txCount + 1 }

@[simp] theorem afterBurst_halted (bs : List Byte) (s : State) : (afterBurst bs s).halted = s.halted := rfl

@[simp] theorem burstFailure_halted (k : FaultKind) (bs : List Byte) (s : State) :
    (burstFailure k bs s).halted = true := rfl

theorem sendPixelData_ok (k : FaultKind) (bs : List Byte) {s : State} (hl : s.halted = false)
    (h : s.txOk 0 = true) : sendPixelData k bs s = afterBurst bs s := by
  rw [sendPixelData, tx_ok k bs (by simpa using h), andThen_live (by simpa using hl)]
  simp [afterBurst, setCS, setDC, logEvent, takeAnswer, burstEvents]

theorem sendPixelData_fail (k : FaultKind) (bs : List Byte) {s : State} (h : s.txOk 0 = false) :
    sendPixelData k bs s = burstFailure k bs s := by
  rw [sendPixelData, tx_fail k bs (by simpa using h), andThen_halted (by simp)]
  simp [burstFailure, setCS, setDC, logEvent, takeAnswer, failedBurstEvents]

/-- The lines after a command sequence are its last byte's resting lines, or unchanged without a byte (41 R135). -/
theorem afterAll_sequenceEvents (l : Lines) (bs : List Byte) :
    l.afterAll (sequenceEvents bs) = if bs = [] then l else { l with cs := .deasserted, dc := .data } := by
  induction bs generalizing l with
  | nil => rfl
  | cons b bs ih =>
    have e : sequenceEvents (b :: bs) = commandEvents b ++ sequenceEvents bs := rfl
    have h : Lines.afterAll l (commandEvents b) = { l with cs := .deasserted, dc := .data } := rfl
    rw [e, Lines.afterAll, List.foldl_append]
    rw [← Lines.afterAll, ← Lines.afterAll, h, ih]
    split <;> simp

/-- A trace of two parts keeps the discipline if each part does, the second from the lines the first leaves. -/
theorem framedFrom_append (l : Lines) (es fs : List Event) :
    framedFrom l (es ++ fs) = (framedFrom l es && framedFrom (l.afterAll es) fs) := by
  induction es generalizing l with
  | nil => rfl
  | cons e es ih => simp [framedFrom, ih, Lines.afterAll, Bool.and_assoc]

/-- A command sequence keeps the discipline from a deselected bus (41 R134). -/
theorem framedFrom_sequenceEvents (l : Lines) (bs : List Byte) (h : l.cs = .deasserted) :
    framedFrom l (sequenceEvents bs) = true := by
  induction bs generalizing l with
  | nil => rfl
  | cons b bs ih =>
    have e : sequenceEvents (b :: bs) = commandEvents b ++ sequenceEvents bs := rfl
    rw [e, framedFrom_append, ih _ rfl]
    simp [commandEvents, framedFrom, Lines.allows, Lines.after, h]

theorem afterAll_append (l : Lines) (es fs : List Event) : l.afterAll (es ++ fs) = (l.afterAll es).afterAll fs := by
  simp [Lines.afterAll]

/-- A request that completes has five events for each command byte (41 R138). -/
theorem sequenceEvents_length (bs : List Byte) : (sequenceEvents bs).length = 5 * bs.length := by
  induction bs with
  | nil => rfl
  | cons b bs ih =>
    have e : sequenceEvents (b :: bs) = commandEvents b ++ sequenceEvents bs := rfl
    rw [e, List.length_append, ih]; simp [commandEvents]; omega

end Sys2Proof.Machine
end

