-- ==== Sys2Proof/Laws/Memory.lean ====
section
/-! SUPPORT. The framebuffer's laws: reading back what was written, leaving other places alone, the canonical form
of every memory operation, and the words of a filled framebuffer. -/

namespace Sys2Proof.Machine

theorem read_write_same (m : Memory) (a : Nat) (v : Byte) : (m.write a v).read a = some v := by
  induction m with
  | nil => simp [Memory.write, Memory.read]
  | cons p m ih =>
    obtain ⟨b, w⟩ := p
    simp only [Memory.write]
    split
    · simp [Memory.read]
    · split
      · simp [Memory.read]
      · next h1 h2 => simp [Memory.read, ih]; omega

theorem read_write_other (m : Memory) {a b : Nat} (v : Byte) (h : a ≠ b) : (m.write a v).read b = m.read b := by
  induction m with
  | nil => simp [Memory.write, Memory.read, h]
  | cons p m ih =>
    obtain ⟨c, w⟩ := p
    simp only [Memory.write]
    split
    · simp [Memory.read, h]
    · split
      · next h1 h2 => subst h2; simp [Memory.read, h]
      · simp [Memory.read, ih]

theorem wfFrom_mono {m : Memory} {i j : Nat} (h : Memory.wfFrom j m = true) (hij : i ≤ j) :
    Memory.wfFrom i m = true := by
  cases m with
  | nil => rfl
  | cons p m => simp only [Memory.wfFrom, Bool.and_eq_true, decide_eq_true_eq] at h ⊢; exact ⟨⟨by omega, h.1.2⟩, h.2⟩

theorem wfFrom_write {m : Memory} {i a : Nat} (v : Byte) (h : Memory.wfFrom i m = true) (hi : i ≤ a)
    (ha : a < frameBytes) : Memory.wfFrom i (m.write a v) = true := by
  induction m generalizing i with
  | nil => simp [Memory.write, Memory.wfFrom, hi, ha]
  | cons p m ih =>
    obtain ⟨b, w⟩ := p
    simp only [Memory.wfFrom, Bool.and_eq_true, decide_eq_true_eq] at h
    simp only [Memory.write]
    split
    · simp [Memory.wfFrom, hi, ha, h.1.2, h.2]; omega
    · split
      · next h1 h2 => subst h2; simp [Memory.wfFrom, hi, ha, h.2]
      · simp only [Memory.wfFrom, Bool.and_eq_true, decide_eq_true_eq]
        exact ⟨h.1, ih h.2 (by omega)⟩

/-- A write keeps the canonical form. -/
theorem wf_write {m : Memory} {a : Nat} (v : Byte) (h : m.wf = true) (ha : a < frameBytes) :
    (m.write a v).wf = true := wfFrom_write v h (Nat.zero_le _) ha

theorem wfFrom_filled (c : Color) (i n : Nat) (h : i + n ≤ fbWords) :
    Memory.wfFrom (2 * i) (Memory.filled c i n) = true := by
  induction n generalizing i with
  | zero => rfl
  | succ n ih =>
    simp only [fbWords] at h
    have hb : frameBytes = 12288 := rfl
    have hn : Memory.wfFrom (2 * (i + 1)) (Memory.filled c (i + 1) n) = true := ih (i + 1) (by simp only [fbWords]; omega)
    simp only [Memory.filled, Memory.wfFrom, Bool.and_eq_true, decide_eq_true_eq]
    exact ⟨⟨by omega, by omega⟩, ⟨by omega, by omega⟩, wfFrom_mono hn (by omega)⟩

/-- A filled framebuffer is canonical. -/
theorem wf_filled (c : Color) : (Memory.filled c 0 fbWords).wf = true :=
  wfFrom_filled c 0 fbWords (Nat.le_refl _)

theorem read_filled (c : Color) (i n j : Nat) (h1 : i ≤ j) (h2 : j < i + n) :
    (Memory.filled c i n).read (2 * j) = some (hi c) ∧ (Memory.filled c i n).read (2 * j + 1) = some (lo c) := by
  induction n generalizing i with
  | zero => omega
  | succ n ih =>
    by_cases hj : i = j
    · subst hj; simp [Memory.filled, Memory.read]
    · have := ih (i + 1) (by omega) (by omega)
      have e1 : 2 * i ≠ 2 * j := by omega
      have e2 : 2 * i + 1 ≠ 2 * j := by omega
      have e3 : 2 * i ≠ 2 * j + 1 := by omega
      simp [Memory.filled, Memory.read, this, e2, e3, hj]

/-- The reset state's memory is canonical. -/
theorem wf_reset : State.reset.fb.wf = true := rfl

/-- The two bytes of a 16-bit value give it back. -/
@[simp] theorem half_hi_lo (c : Color) : half (hi c) (lo c) = c := by
  simp only [half, hi, lo]
  ext i h
  simp only [BitVec.getElem_append, BitVec.getElem_extractLsb']
  split
  · simp [BitVec.getLsbD_eq_getElem h]
  · next h' =>
    have e : 8 + (i - 8) = i := by omega
    simp [e, BitVec.getLsbD_eq_getElem h]

@[simp] theorem hi_half (b0 b1 : Byte) : hi (half b0 b1) = b0 := by
  simp only [half, hi]
  ext i h
  simp only [BitVec.getElem_extractLsb', BitVec.getLsbD_append]
  simp [BitVec.getLsbD_eq_getElem h]

@[simp] theorem lo_half (b0 b1 : Byte) : lo (half b0 b1) = b1 := by
  simp only [half, lo]
  ext i h
  simp only [BitVec.getElem_extractLsb', BitVec.getLsbD_append]
  simp [h]

/-- Reading back the word written. -/
@[simp] theorem fbWord_writeWord_same (i : Nat) (c : Color) (s : State) : (writeWord i c s).fbWord i = c := by
  simp [State.fbWord, State.fbByte, read_write_same, read_write_other _ (lo c) (show 2 * i + 1 ≠ 2 * i by omega)]

/-- A word write leaves every byte outside the word alone. -/
theorem fbByte_writeWord_other {i a : Nat} (c : Color) (s : State) (h0 : a ≠ 2 * i) (h1 : a ≠ 2 * i + 1) :
    (writeWord i c s).fbByte a = s.fbByte a := by
  simp [State.fbByte, read_write_other _ _ (Ne.symm h0), read_write_other _ _ (Ne.symm h1)]

/-- A word write leaves every other word alone. -/
theorem fbWord_writeWord_other {i j : Nat} (c : Color) (s : State) (h : j ≠ i) :
    (writeWord i c s).fbWord j = s.fbWord j := by
  simp only [State.fbWord]
  rw [fbByte_writeWord_other c s (by omega) (by omega), fbByte_writeWord_other c s (by omega) (by omega)]

/-- Every word of a filled framebuffer is the colour. -/
theorem fbWord_fillAll (c : Color) (s : State) {i : Nat} (h : i < 6144) : (fillAll c s).fbWord i = c := by
  have := read_filled c 0 fbWords i (Nat.zero_le _) (by simpa [fbWords] using h)
  simp [State.fbWord, State.fbByte, this]

/-- Plot on the panel is a word write; off the panel it raises (20 R53). -/
theorem plot_on {x y : Int} (c : Color) (s : State) (h : onPanel x y = true) :
    plot x y c s = writeWord (pixelIndex x.toNat y.toNat) c s := by simp [plot, h]

theorem plot_off {x y : Int} (c : Color) (s : State) (h : onPanel x y = false) : plot x y c s = raise .plot s := by
  simp [plot, h]

theorem onPanel_iff {x y : Int} : onPanel x y = true ↔ 0 ≤ x ∧ x ≤ 95 ∧ 0 ≤ y ∧ y ≤ 63 := by
  simp [onPanel, and_assoc]

theorem cellFits_iff {x y : Int} : cellFits x y = true ↔ 0 ≤ x ∧ x ≤ 88 ∧ 0 ≤ y ∧ y ≤ 56 := by
  simp [cellFits, and_assoc]

/-- A pixel of the panel has a word of the framebuffer (20 R51). -/
theorem pixelIndex_lt {x y : Int} (h : onPanel x y = true) : pixelIndex x.toNat y.toNat < 6144 := by
  have := onPanel_iff.mp h
  simp only [pixelIndex, panelWidth]; omega

/-- Two pixels of the panel with the same word are the same pixel (20 R51, R52). -/
theorem pixelIndex_inj {x y x' y' : Int} (h : onPanel x y = true) (h' : onPanel x' y' = true)
    (e : pixelIndex x.toNat y.toNat = pixelIndex x'.toNat y'.toNat) : x = x' ∧ y = y' := by
  have := onPanel_iff.mp h
  have := onPanel_iff.mp h'
  simp only [pixelIndex, panelWidth] at e; omega

/-- A word write on the panel keeps the canonical form. -/
theorem wf_writeWord {i : Nat} (c : Color) (s : State) (h : s.fb.wf = true) (hi' : i < 6144) :
    (writeWord i c s).fb.wf = true := by
  simp only [writeWord_fb]
  exact wf_write _ (wf_write _ h (by simp [frameBytes]; omega)) (by simp [frameBytes]; omega)

end Sys2Proof.Machine
end

