-- ==== Sys2Proof/Laws/Writes.lean ====
section
/-! SUPPORT. Runs of word writes: what a list of them leaves in the framebuffer. LINE, CHAR and STRING are such
lists (Laws/Line.lean, Laws/Glyph.lean). -/

namespace Sys2Proof.Machine

/-- Writes words one after the other. -/
def writeAll (ws : List (Nat × Color)) (s : State) : State := ws.foldl (fun s w => writeWord w.1 w.2 s) s

@[simp] theorem writeAll_nil (s : State) : writeAll [] s = s := rfl

@[simp] theorem writeAll_cons (w : Nat × Color) (ws : List (Nat × Color)) (s : State) :
    writeAll (w :: ws) s = writeAll ws (writeWord w.1 w.2 s) := rfl

theorem writeAll_append (vs ws : List (Nat × Color)) (s : State) :
    writeAll (vs ++ ws) s = writeAll ws (writeAll vs s) := by simp [writeAll]

/-- Only the framebuffer changes. -/
theorem writeAll_eq (ws : List (Nat × Color)) (s : State) : writeAll ws s = { s with fb := (writeAll ws s).fb } := by
  induction ws generalizing s with
  | nil => rfl
  | cons w ws ih => rw [writeAll_cons, ih]; rfl

@[simp] theorem writeAll_halted (ws : List (Nat × Color)) (s : State) : (writeAll ws s).halted = s.halted := by
  rw [writeAll_eq]; rfl

/-- What is written depends only on the framebuffer. -/
theorem writeAll_fb_congr (ws : List (Nat × Color)) {s s' : State} (h : s.fb = s'.fb) :
    (writeAll ws s).fb = (writeAll ws s').fb := by
  induction ws generalizing s s' with
  | nil => simpa using h
  | cons w ws ih => exact ih (by simp [h])

/-- A byte outside every word written is left alone. -/
theorem fbByte_writeAll_other (ws : List (Nat × Color)) (s : State) {a : Nat}
    (h : ∀ w ∈ ws, a ≠ 2 * w.1 ∧ a ≠ 2 * w.1 + 1) : (writeAll ws s).fbByte a = s.fbByte a := by
  induction ws generalizing s with
  | nil => rfl
  | cons w ws ih =>
    rw [writeAll_cons, ih _ fun v hv => h v (List.mem_cons_of_mem _ hv)]
    have := h w List.mem_cons_self
    exact fbByte_writeWord_other _ _ this.1 this.2

/-- A word outside every word written is left alone. -/
theorem fbWord_writeAll_other (ws : List (Nat × Color)) (s : State) {i : Nat} (h : ∀ w ∈ ws, w.1 ≠ i) :
    (writeAll ws s).fbWord i = s.fbWord i := by
  simp only [State.fbWord]
  rw [fbByte_writeAll_other ws s fun w hw => by have := h w hw; omega,
    fbByte_writeAll_other ws s fun w hw => by have := h w hw; omega]

/-- A word that every write to it gives the same colour holds that colour. -/
theorem fbWord_writeAll_mem (ws : List (Nat × Color)) (s : State) {i : Nat} {c : Color} (hm : (i, c) ∈ ws)
    (h : ∀ w ∈ ws, w.1 = i → w.2 = c) : (writeAll ws s).fbWord i = c := by
  induction ws generalizing s with
  | nil => cases hm
  | cons w ws ih =>
    rw [writeAll_cons]
    by_cases hr : ∃ v ∈ ws, v.1 = i
    · obtain ⟨v, hv, e⟩ := hr
      have ec := h v (List.mem_cons_of_mem _ hv) e
      exact ih _ (by rw [← e, ← ec]; exact hv) fun u hu => h u (List.mem_cons_of_mem _ hu)
    · have hw : w = (i, c) := by
        rcases List.mem_cons.mp hm with e | hm
        · exact e.symm
        · exact absurd ⟨_, hm, rfl⟩ hr
      rw [fbWord_writeAll_other ws _ fun v hv e => hr ⟨v, hv, e⟩, hw]
      exact fbWord_writeWord_same i c s

/-- The blitter's registers of a state, set. -/
def setBlit (b : BlitRegs) (s : State) : State := { s with blit := b }

@[simp] theorem setBlit_setBlit (b c : BlitRegs) (s : State) : setBlit b (setBlit c s) = setBlit b s := rfl

@[simp] theorem setBlit_halted (b : BlitRegs) (s : State) : (setBlit b s).halted = s.halted := rfl

/-- Word writes and the blitter's registers do not touch each other. -/
theorem writeAll_setBlit (ws : List (Nat × Color)) (b : BlitRegs) (s : State) :
    writeAll ws (setBlit b s) = setBlit b (writeAll ws s) := by
  induction ws generalizing s with
  | nil => rfl
  | cons w ws ih => exact ih (writeWord w.1 w.2 s)

/-- Word writes and the line engine's registers do not touch each other. -/
theorem writeAll_setLine (ws : List (Nat × Color)) (r : LineRegs) (s : State) :
    writeAll ws (setLine r s) = setLine r (writeAll ws s) := by
  induction ws generalizing s with
  | nil => rfl
  | cons w ws ih => exact ih (writeWord w.1 w.2 s)

@[simp] theorem writeAll_blit (ws : List (Nat × Color)) (s : State) : (writeAll ws s).blit = s.blit := by
  rw [writeAll_eq]

@[simp] theorem writeAll_glyphRom (ws : List (Nat × Color)) (s : State) : (writeAll ws s).glyphRom = s.glyphRom := by
  rw [writeAll_eq]

@[simp] theorem writeAll_cfg (ws : List (Nat × Color)) (s : State) : (writeAll ws s).cfg = s.cfg := by
  rw [writeAll_eq]

/-- Writes inside the framebuffer keep the canonical form. -/
theorem wf_writeAll (ws : List (Nat × Color)) (s : State) (h : s.fb.wf = true) (hi' : ∀ w ∈ ws, w.1 < 6144) :
    (writeAll ws s).fb.wf = true := by
  induction ws generalizing s with
  | nil => exact h
  | cons w ws ih =>
    exact ih _ (wf_writeWord _ s h (hi' w List.mem_cons_self)) fun v hv => hi' v (List.mem_cons_of_mem _ hv)

end Sys2Proof.Machine
end

