-- ==== Sys2Proof/Laws/Glyph.lean ====
section
/-! SUPPORT. The glyph blitter's loops as lists of word writes (45_glyph_blitter.md R203 to R207). -/

namespace Sys2Proof.Machine

/-- The glyph table and the background colour a blit reads. -/
structure Font where
  rom : Vector (Vector Byte 8) 39
  background : Color

/-- The font of a state. -/
def State.font (s : State) : Font := { rom := s.glyphRom, background := s.cfg.bgColor }

@[simp] theorem setBlit_font (b : BlitRegs) (s : State) : (setBlit b s).font = s.font := rfl

@[simp] theorem writeWord_font (i : Nat) (c : Color) (s : State) : (writeWord i c s).font = s.font := rfl

@[simp] theorem writeAll_font (ws : List (Nat × Color)) (s : State) : (writeAll ws s).font = s.font := by
  rw [writeAll_eq]; rfl

/-- The colour of a glyph's pixel (45 R205). -/
def Font.color (f : Font) (g : Fin 39) (color : Color) (p : Fin 8 × Fin 8) : Color :=
  if glyphBit f.rom g p.1 p.2 then color else f.background

/-- The word of a cell's pixel (45 R205). -/
def cellIndex (x y : Int) (p : Fin 8 × Fin 8) : Nat := pixelIndex (x.toNat + p.2) (y.toNat + p.1)

/-- The word writes of a cell at the given positions. -/
def Font.cell (f : Font) (x y : Int) (g : Fin 39) (color : Color) (ps : List (Fin 8 × Fin 8)) :
    List (Nat × Color) :=
  ps.map fun p => (cellIndex x y p, f.color g color p)

theorem cellPixel_onPanel {x y : Int} (h : cellFits x y = true) (p : Fin 8 × Fin 8) :
    onPanel (x + p.2.val) (y + p.1.val) = true := by
  have := cellFits_iff.mp h
  exact onPanel_iff.mpr ⟨by omega, by omega, by omega, by omega⟩

theorem cellPixel_index {x y : Int} (h : cellFits x y = true) (p : Fin 8 × Fin 8) :
    pixelIndex (x + p.2.val).toNat (y + p.1.val).toNat = cellIndex x y p := by
  have := cellFits_iff.mp h
  simp only [cellIndex]
  congr 1 <;> omega

/-- Every word of a cell that fits is in the framebuffer. -/
theorem cellIndex_lt {x y : Int} (h : cellFits x y = true) (p : Fin 8 × Fin 8) : cellIndex x y p < 6144 := by
  rw [← cellPixel_index h p]; exact pixelIndex_lt (cellPixel_onPanel h p)

/-- Two pixels of a cell that fits with the same word are the same pixel. -/
theorem cellIndex_inj {x y : Int} (h : cellFits x y = true) {p q : Fin 8 × Fin 8}
    (e : cellIndex x y p = cellIndex x y q) : p = q := by
  rw [← cellPixel_index h p, ← cellPixel_index h q] at e
  have := pixelIndex_inj (cellPixel_onPanel h p) (cellPixel_onPanel h q) e
  exact Prod.ext (Fin.ext (by omega)) (Fin.ext (by omega))

/-- One pixel of a cell that fits is one word write (45 R205). -/
theorem plotCell_eq {x y : Int} (hf : cellFits x y = true) (color : Color) (p : Fin 8 × Fin 8) (s : State) :
    plotCell x y color (setCell p s) =
      setBlit { s.blit with row := p.1, col := p.2 }
        (writeWord (cellIndex x y p) (s.font.color s.blit.g color p) s) := by
  rw [plotCell, plot_on _ _ (by simpa using cellPixel_onPanel hf p), ← cellPixel_index hf p]
  rfl

/-- The blit of a cell that fits writes exactly the cell's words; the glyph, the character counter and the running
origin stay. -/
theorem blitLoop_eq (x y : Int) (color : Color) (ps : List (Fin 8 × Fin 8)) {s : State} (hl : s.halted = false)
    (hf : cellFits x y = true) :
    ∃ b : BlitRegs, b.g = s.blit.g ∧ b.k = s.blit.k ∧ b.cx = s.blit.cx ∧
      blitLoop x y color ps s = setBlit b (writeAll (s.font.cell x y s.blit.g color ps) s) := by
  induction ps generalizing s with
  | nil => exact ⟨s.blit, rfl, rfl, rfl, rfl⟩
  | cons p ps ih =>
    rw [blitLoop, plotCell_eq hf, andThen_live (by simpa using hl)]
    obtain ⟨b, hg, hk, hc, e⟩ := ih (s := setBlit { s.blit with row := p.1, col := p.2 }
      (writeWord (cellIndex x y p) (s.font.color s.blit.g color p) s)) (by simpa using hl)
    refine ⟨b, hg, hk, hc, ?_⟩
    rw [e, setBlit_font, writeWord_font, writeAll_setBlit, setBlit_setBlit]
    rfl

/-- CharBlit at an origin that fits writes exactly the 64 words of its cell (45 R203, R205). -/
theorem charBlit_eq (x y : Int) (ch : Byte) (color : Color) {s : State} (hl : s.halted = false)
    (hf : cellFits x y = true) :
    ∃ b : BlitRegs, b.k = s.blit.k ∧ b.cx = s.blit.cx ∧
      charBlit x y ch color s =
        setBlit b (writeAll (s.font.cell x y (charToGlyphIndex ch) color cellPositions) s) := by
  have hg : setGlyph (charToGlyphIndex ch) s = setBlit { s.blit with g := charToGlyphIndex ch } s := rfl
  obtain ⟨b, -, hk, hc, e⟩ := blitLoop_eq x y color cellPositions
    (s := setBlit { s.blit with g := charToGlyphIndex ch } s) (by simpa using hl) hf
  refine ⟨b, hk, hc, ?_⟩
  rw [charBlit, if_pos hf, hg, e, setBlit_font, writeAll_setBlit, setBlit_setBlit]
  rfl

/-- CharBlit at an origin that does not fit changes nothing (45 R204). -/
theorem charBlit_clip (x y : Int) (ch : Byte) (color : Color) (s : State) (hf : cellFits x y = false) :
    charBlit x y ch color s = s := by simp [charBlit, hf]

/-- The word writes of a string's characters from an origin on: those whose cell fits (45 R207). -/
def Font.text (f : Font) (y : Int) (color : Color) : Int → List Byte → List (Nat × Color)
  | _, [] => []
  | cx, ch :: text =>
    (if cellFits cx y then f.cell cx y (charToGlyphIndex ch) color cellPositions else []) ++
      f.text y color (cx + 8) text

/-- A string's loop writes exactly the cells that fit (45 R206, R207). -/
theorem stringLoop_eq (y : Int) (color : Color) (text : List Byte) {s : State} (hl : s.halted = false) :
    ∃ b : BlitRegs,
      stringLoop y color text s = setBlit b (writeAll (s.font.text y color s.blit.cx text) s) := by
  induction text generalizing s with
  | nil => exact ⟨s.blit, rfl⟩
  | cons ch text ih =>
    cases hf : cellFits s.blit.cx y with
    | false =>
      have ho : setOrigin (s.blit.k + 1) (s.blit.cx + charAdvance) s =
          setBlit { s.blit with k := s.blit.k + 1, cx := s.blit.cx + 8 } s := rfl
      obtain ⟨b, e⟩ := ih (s := setBlit { s.blit with k := s.blit.k + 1, cx := s.blit.cx + 8 } s)
        (by simpa using hl)
      refine ⟨b, ?_⟩
      rw [stringLoop, charBlit_clip _ _ _ _ _ hf, andThen_live hl, ho, e, setBlit_font, writeAll_setBlit,
        setBlit_setBlit]
      simp only [Font.text, hf, Bool.false_eq_true, if_false, List.nil_append]
      rfl
    | true =>
      obtain ⟨b, -, hc, e⟩ := charBlit_eq s.blit.cx y ch color hl hf
      have ho : ∀ u : State, setOrigin ((setBlit b u).blit.k + 1) ((setBlit b u).blit.cx + charAdvance) (setBlit b u) =
          setBlit { b with k := b.k + 1, cx := s.blit.cx + 8 } u := fun u => by rw [← hc]; rfl
      obtain ⟨b', e'⟩ := ih
        (s := setBlit { b with k := b.k + 1, cx := s.blit.cx + 8 }
          (writeAll (s.font.cell s.blit.cx y (charToGlyphIndex ch) color cellPositions) s))
        (by simpa using hl)
      refine ⟨b', ?_⟩
      rw [stringLoop, e, andThen_live (by simpa using hl), ho, e', setBlit_font, writeAll_font, writeAll_setBlit,
        setBlit_setBlit]
      simp only [Font.text, hf, if_true, writeAll_append]
      rfl

end Sys2Proof.Machine
end

