-- ==== Sys2Proof/Laws/Line.lean ====
section
/-! SUPPORT. The line engine's loop as a list of word writes (44_line_engine.md R180, R183). -/

namespace Sys2Proof.Machine

/-- The registers with which the loop stops. -/
def LineRegs.final : Nat → LineRegs → LineRegs
  | 0, r => r
  | n + 1, r => if r.atEnd then r else LineRegs.final n r.step

/-- The word writes of a list of points in one colour. -/
def pointWrites (c : Color) (ps : List (Int × Int)) : List (Nat × Color) :=
  ps.map fun p => (pixelIndex p.1.toNat p.2.toNat, c)

/-- Where every point lies on the panel, the loop writes exactly its points and moves its registers. -/
theorem lineLoop_eq (c : Color) (n : Nat) {s : State} (hl : s.halted = false)
    (hp : ∀ p ∈ LineRegs.points n s.line, onPanel p.1 p.2 = true) :
    lineLoop c n s =
      setLine (LineRegs.final n s.line) (writeAll (pointWrites c (LineRegs.points n s.line)) s) := by
  induction n generalizing s with
  | zero => rfl
  | succ n ih =>
    have h0 : onPanel s.line.x s.line.y = true := hp (s.line.x, s.line.y) (by simp [LineRegs.points])
    rw [lineLoop, plot_on c s h0, andThen_live (by simpa using hl)]
    simp only [LineRegs.points, LineRegs.final, pointWrites, List.map_cons, writeAll_cons, writeWord_line]
    by_cases he : s.line.atEnd = true
    · simp only [if_pos he, List.map_nil, writeAll_nil]
      exact if_pos he
    · simp only [if_neg he]
      refine (if_neg he).trans ?_
      rw [ih (by simpa using hl) fun p hm => hp p (by simpa [LineRegs.points, if_neg he] using .inr hm)]
      simp only [setLine_line, pointWrites, writeAll_setLine]
      rfl

/-- The points do not depend on the old `e2`, which a step writes before it reads it. -/
theorem points_congr (n : Nat) {r r' : LineRegs} (h : { r with e2 := 0 } = { r' with e2 := 0 }) :
    LineRegs.points n r = LineRegs.points n r' := by
  induction n generalizing r r' with
  | zero => rfl
  | succ n ih =>
    simp only [LineRegs.mk.injEq] at h
    have hs : r.step = r'.step := by simp only [LineRegs.step, LineRegs.stepX, LineRegs.stepY, h]
    simp only [LineRegs.points, LineRegs.atEnd, h, hs]
    rfl

/-- A LINE's points from any registers the engine held before it. -/
theorem points_setup (old : LineRegs) (x0 y0 x1 y1 : Int) :
    LineRegs.points lineFuel (LineRegs.setup old x0 y0 x1 y1) = linePoints x0 y0 x1 y1 :=
  points_congr lineFuel rfl

end Sys2Proof.Machine
end

