-- ==== Sys2Proof/Laws/Requests.lean ====
section
/-! SUPPORT. What the frame of a request and the bodies of the bus-using requests can do: each ends in one of a few
states named in Laws/Channel.lean (10_state.md R26, 42_reset_sequencer.md, 46_display_controller.md). -/

namespace Sys2Proof.Machine

open Sys2Proof.Safety

/-- A halted block takes no request (60 R266). -/
theorem request_halted {body : State → State} {s : State} (h : s.halted = true) : request body s = s := by
  simp [request, h]

/-- A request whose body ends without a fault completes (10 R26, R28). -/
theorem request_completes {body : State → State} {s : State} (h : s.halted = false)
    (hb : (body (start s)).halted = false) : request body s = complete (body (start s)) := by
  rw [request, if_neg (by simp [h]), andThen_live hb]

/-- A request whose body raises stays where the fault left it (60 R266). -/
theorem request_faults {body : State → State} {s : State} (h : s.halted = false)
    (hb : (body (start s)).halted = true) : request body s = body (start s) := by
  rw [request, if_neg (by simp [h]), andThen_halted hb]

/-- In Ready a bus-using request goes on (46 R237). -/
theorem requireReady_ready {body : State → State} {s : State} (h : s.rstate = .ready) :
    requireReady body s = body s := if_pos h

/-- Before Ready a bus-using request raises (46 R237). -/
theorem requireReady_early {body : State → State} {s : State} (h : s.rstate ≠ .ready) :
    requireReady body s = raise .order s := if_neg h

/-- What the reset pulse leaves (42 R151, R152, R153). -/
theorem resetPulse_eq (s : State) : resetPulse s = { s with
    cs := .deasserted, res := .deasserted, rstate := .resetReleasedSettling, trace := s.trace ++ pulseEvents } := by
  simp [resetPulse, delay, setCS, setRES, setRState, logEvent, pulseEvents, tPreMs, tPulseMs, tSettleMs]

@[simp] theorem resetPulse_halted (s : State) : (resetPulse s).halted = s.halted := by rw [resetPulse_eq]; rfl

@[simp] theorem resetPulse_txOk (s : State) (k : Nat) : (resetPulse s).txOk k = s.txOk k := by
  rw [resetPulse_eq]; rfl

@[simp] theorem resetPulse_pending (s : State) : (resetPulse s).pending = s.pending := by rw [resetPulse_eq]

/-- RESET's body whose transfers all succeed (42 R154). -/
theorem resetBody_ok {s : State} (hl : s.halted = false) (h : txAllOk s s.cfg.initProg.length) :
    resetBody s = setRState .ready (afterSequence s.pending s.cfg.initProg (resetPulse s)) := by
  rw [resetBody, sendSequence_ok .init _ (by simpa using hl) (fun k hk => by simpa using h k hk),
    andThen_live (by simpa using hl), resetPulse_pending]

/-- RESET's body whose byte `j` fails (42 R157). -/
theorem resetBody_fail (j : Nat) {s : State} (hj : j < s.cfg.initProg.length) (hl : s.halted = false)
    (h : txFailsAt s j) : resetBody s = sequenceFailure .init s.cfg.initProg j hj (resetPulse s) := by
  rw [resetBody, sendSequence_fail .init _ j hj (by simpa using hl)
      ⟨fun k hk => by simpa using h.1 k hk, by simpa using h.2⟩, andThen_halted (by simp)]

@[simp] theorem latchArea_regionBytes (a b : RenderArea) (s : State) :
    (latchArea b s).regionBytes a = s.regionBytes a := rfl

@[simp] theorem afterSequence_regionBytes (a : RenderArea) (outer bs : List Byte) (s : State) :
    (afterSequence outer bs s).regionBytes a = s.regionBytes a := rfl

@[simp] theorem addressWindow_length (ops : Opcodes) (a : RenderArea) : (addressWindow ops a).length = 6 := rfl

/-- A region render of an area that is not valid (46 R231). -/
theorem renderRegion_invalid {a : RenderArea} (ha : a.valid = false) (s : State) :
    renderRegion a s = raise .area s := by simp [renderRegion, ha]

/-- A region render whose window and burst are sent (46 R231). -/
theorem renderRegion_ok {a : RenderArea} {s : State} (ha : a.valid = true) (hl : s.halted = false)
    (h : txAllOk s 7) :
    renderRegion a s =
      afterBurst (s.regionBytes a)
        (endCounters a (afterSequence s.pending (addressWindow s.cfg.ops a) (latchArea a s))) := by
  rw [renderRegion, if_pos ha, sendSequence_ok .command (addressWindow s.cfg.ops a) (s := latchArea a s) hl
      (fun k hk => h k (Nat.lt_of_lt_of_le hk (Nat.le_succ 6))), andThen_live (by simpa using hl), sendRegion,
    sendPixelData_ok .burst _ (by simpa using hl) (by simpa using h 6 (by omega))]
  rfl

/-- A region render whose window byte `j` fails (46 R231, 60 R262). -/
theorem renderRegion_commandFail {a : RenderArea} {s : State} (j : Nat) (ha : a.valid = true)
    (hj : j < (addressWindow s.cfg.ops a).length) (hl : s.halted = false) (h : txFailsAt s j) :
    renderRegion a s = sequenceFailure .command (addressWindow s.cfg.ops a) j hj (latchArea a s) := by
  rw [renderRegion, if_pos ha, sendSequence_fail .command _ j hj (s := latchArea a s) hl ⟨fun k hk => h.1 k hk, h.2⟩, andThen_halted (by simp)]

/-- A region render whose burst fails (46 R231, 60 R262). -/
theorem renderRegion_burstFail {a : RenderArea} {s : State} (ha : a.valid = true) (hl : s.halted = false)
    (h : txFailsAt s 6) :
    renderRegion a s =
      burstFailure .burst (s.regionBytes a)
        (endCounters a (afterSequence s.pending (addressWindow s.cfg.ops a) (latchArea a s))) := by
  rw [renderRegion, if_pos ha, sendSequence_ok .command (addressWindow s.cfg.ops a) (s := latchArea a s) hl
      (fun k hk => h.1 k hk), andThen_live (by simpa using hl), sendRegion,
    sendPixelData_fail .burst _ (by simpa using h.2)]
  rfl

/-- All a region render can do. -/
theorem renderRegion_cases (a : RenderArea) {s : State} (hl : s.halted = false) :
    (a.valid = false ∧ renderRegion a s = raise .area s) ∨
    (a.valid = true ∧
      ((∃ (j : Nat) (hj : j < (addressWindow s.cfg.ops a).length), txFailsAt s j ∧
          renderRegion a s = sequenceFailure .command (addressWindow s.cfg.ops a) j hj (latchArea a s)) ∨
        (txFailsAt s 6 ∧ renderRegion a s = burstFailure .burst (s.regionBytes a)
          (endCounters a (afterSequence s.pending (addressWindow s.cfg.ops a) (latchArea a s)))) ∨
        (txAllOk s 7 ∧ renderRegion a s = afterBurst (s.regionBytes a)
          (endCounters a (afterSequence s.pending (addressWindow s.cfg.ops a) (latchArea a s)))))) := by
  cases ha : a.valid with
  | false => exact .inl ⟨rfl, renderRegion_invalid ha s⟩
  | true =>
    refine .inr ⟨rfl, ?_⟩
    rcases txAllOk_or_fails s 7 with h | ⟨j, hj, h⟩
    · exact .inr (.inr ⟨h, renderRegion_ok ha hl h⟩)
    · rcases Nat.lt_succ_iff_lt_or_eq.mp hj with hj | rfl
      · exact .inl ⟨j, hj, h, renderRegion_commandFail j ha hj hl h⟩
      · exact .inr (.inl ⟨h, renderRegion_burstFail ha hl h⟩)

/-- One more command byte after a sequence is a longer sequence (41 R131). -/
theorem sendSequence_snoc (k : FaultKind) (bs : List Byte) (b : Byte) {s : State} (hl : s.halted = false) :
    (sendSequence k bs s).andThen (sendCommand k b) = sendSequence k (bs ++ [b]) s := by
  rcases txAllOk_or_fails s (bs.length + 1) with h | ⟨j, hj, h⟩
  · rw [sendSequence_ok k bs hl fun i hi => h i (by omega), andThen_live (by simpa using hl),
      sendCommand_ok k b (by simpa using hl) (by simpa using h bs.length (by omega)),
      sendSequence_ok k _ hl (by simpa using h)]
    by_cases hb : bs = [] <;>
      simp [afterCommand, afterSequence, sequenceEvents, hb, ← List.drop_one, List.drop_drop, Nat.add_assoc]
  · rw [sendSequence_fail k (bs ++ [b]) j (by simpa using hj) hl h]
    by_cases he : j < bs.length
    · rw [sendSequence_fail k bs j he hl h, andThen_halted (by simp)]
      simp [sequenceFailure, List.getElem_append_left he, List.take_append_of_le_length (Nat.le_of_lt he)]
    · obtain rfl : j = bs.length := by omega
      rw [sendSequence_ok k bs hl h.1, andThen_live (by simpa using hl),
        sendCommand_fail k b (by simpa using h.2)]
      by_cases hb : bs = [] <;>
        simp [commandFailure, sequenceFailure, raise, release, afterSequence, hb, ← List.drop_one,
          List.drop_drop, Nat.add_assoc]

end Sys2Proof.Machine
end

