-- ==== Sys2Proof/Laws/Wire.lean ====
section
/-! SUPPORT. The 26 panel commands taken together: their bytes, their decoding and their meaning
(30_encoding.md R98, R99). -/

namespace Sys2Proof

/-- A panel command's bytes are its opcode and its parameters, and its parameters determine it. -/
theorem encode_of_wire {i : Instr} {o : WireOp} {ps : List Byte} (ops : Opcodes) (h : i.wire? = some (o, ps)) :
    encode ops i = WireOp.bytes ops o ps ∧ o.instr ps = some i := by
  cases i <;> simp only [Instr.wire?, reduceCtorEq, Option.some.injEq, Prod.mk.injEq] at h <;>
    (obtain ⟨rfl, rfl⟩ := h; exact ⟨rfl, rfl⟩)

/-- A panel command is well-formed exactly when it has as many parameters as the table says (30 R98, R99). -/
theorem wellFormed_of_wire {i : Instr} {o : WireOp} {ps : List Byte} (ops : Opcodes) (h : i.wire? = some (o, ps)) :
    i.wellFormed ops = true ↔ ps.length = ops.params o := by
  cases i <;> simp only [Instr.wire?, reduceCtorEq, Option.some.injEq, Prod.mk.injEq] at h <;>
    (obtain ⟨rfl, rfl⟩ := h; simp [Instr.wellFormed, Opcodes.params])

/-- Every panel command is in the list of all. -/
theorem WireOp.mem_all (o : WireOp) : o ∈ WireOp.all := by cases o <;> decide

/-- In a table without repetitions an opcode belongs to one command. -/
theorem Opcodes.byte_inj {ops : Opcodes} (hd : ops.Distinct) {o o' : WireOp} (h : ops.byte o = ops.byte o') :
    o = o' :=
  List.inj_on_of_nodup_map hd o.mem_all o'.mem_all h

/-- The default opcode table has no repetitions (30 R99). -/
theorem defaultOpcodes_distinct : Machine.defaultOpcodes.Distinct := by decide

/-- What parameter bytes make of a command is that command with these parameters. -/
theorem wire_of_instr {o : WireOp} {ps : List Byte} {i : Instr} (h : o.instr ps = some i) :
    i.wire? = some (o, ps) := by
  cases o <;> simp only [WireOp.instr, wire2, wire5] at h <;> (try split at h) <;>
    simp only [reduceCtorEq, Option.some.injEq] at h <;> (subst h; rfl)

/-- All the wire decoder can answer: a well-formed panel command that stands at the front of the bytes. -/
theorem decodeWire_ok {ops : Opcodes} {bs rest : List Byte} {i : Instr} (h : decodeWire ops bs = .ok (i, rest)) :
    ∃ o ps, i.wire? = some (o, ps) ∧ i.wellFormed ops = true ∧ bs = WireOp.bytes ops o ps ++ rest := by
  unfold decodeWire at h
  split at h
  · simp at h
  · rename_i b bs
    cases hf : ops.find b with
    | none => simp [hf] at h
    | some o =>
      simp only [hf] at h
      split at h
      · rename_i hn
        split at h
        · rename_i j hj
          simp only [Except.ok.injEq, Prod.mk.injEq] at h
          obtain ⟨rfl, rfl⟩ := h
          have hw := wire_of_instr hj
          have hb : ops.byte o = b := by simpa using List.find?_some hf
          exact ⟨o, _, hw, (wellFormed_of_wire ops hw).mpr (by simpa using hn), by simp [WireOp.bytes, hb]⟩
        · simp at h
      · simp at h

namespace Machine

/-- A panel command's meaning (30 R98). -/
theorem exec_of_wire {i : Instr} {o : WireOp} {ps : List Byte} (h : i.wire? = some (o, ps)) (s : State) :
    exec i s = .next (wireCommand o ps s) := by
  cases i <;> simp only [Instr.wire?, reduceCtorEq, Option.some.injEq, Prod.mk.injEq] at h <;>
    (obtain ⟨rfl, rfl⟩ := h; rfl)

end Machine

end Sys2Proof
end

