-- ==== Sys2Proof/Laws/PerInstr.lean ====
section
/-! SUPPORT. A family of statements about every instruction as syntax: how many bytes its encoding has
(30_encoding.md R93, R96, R98). -/

namespace Sys2Proof.Laws.EncodedLength

/-- The length the spec gives an encoding: the opcode and the parameters of a panel command (30 R98), else
PacketLength of the packet's first and eighth byte (30 R93). -/
def statedLength (ops : Opcodes) (i : Instr) (bytes : List Byte) : Nat :=
  match i.wire? with
  | some (o, _) => 1 + ops.params o
  | none => packetLength (bytes.getD 0 0x00#8) (bytes.getD 7 0x00#8)

/-- A well-formed instruction's encoding has the length the spec gives it. -/
def Statement (i : Instr) : Prop :=
  ∀ ops : Opcodes, i.wellFormed ops = true → (encode ops i).length = statedLength ops i (encode ops i)

/-- A panel command whose parameters are as many as the table says is one byte longer than they are (30 R98). -/
theorem command (ops : Opcodes) {i : Instr} {o : WireOp} {ps : List Byte} (hw : i.wire? = some (o, ps))
    (h : i.wellFormed ops = true) : (encode ops i).length = statedLength ops i (encode ops i) := by
  have hn := (wellFormed_of_wire ops hw).mp h
  rw [(encode_of_wire ops hw).1]
  simp [statedLength, hw, WireOp.bytes, hn, Nat.add_comm]

/-- A reserved byte is a packet of one byte (30 R92, R93). -/
theorem packetLength_reserved (b0 b7 : Byte) (h : isReservedByte b0 = true) : packetLength b0 b7 = 1 := by
  have h : b0 = 0x00#8 ∨ 9 ≤ b0.toNat := by simpa [isReservedByte] using h
  have hn : ∀ k : Byte, 1 ≤ k.toNat → k.toNat ≤ 8 → b0 ≠ k := by
    rintro k h1 h2 rfl
    rcases h with rfl | h
    · simp at h1
    · omega
  simp [packetLength, opReset, opClear, opRender, opLine, opChar, opString, opScroll, opInvert, hn]

theorem reset : Statement .reset := fun _ _ => rfl

theorem clear (color : Color) :
    Statement (.clear color) := fun _ _ => rfl

theorem render (startCol endCol startRow endRow : Byte) :
    Statement (.render startCol endCol startRow endRow) := fun _ _ => rfl

theorem line (x0 y0 x1 y1 : Half) (color : Color) :
    Statement (.line x0 y0 x1 y1 color) := fun _ _ => rfl

theorem char (x y : Half) (ch : Byte) (color : Color) :
    Statement (.char x y ch color) := fun _ _ => rfl

theorem string (x y : Half) (color : Color) (text : List Byte) :
    Statement (.string x y color text) := by
  intro ops h
  have hl : text.length ≤ 255 := by simpa [Instr.wellFormed] using h
  have e : text.length % 256 = text.length := Nat.mod_eq_of_lt (by omega)
  simp [encode, beBytes, statedLength, packetLength, Instr.wire?, opReset, opClear, opRender, opLine, opChar, opString, e]
  omega

theorem scroll (hOffset vOffset interval : Byte) (enable : Bool) :
    Statement (.scroll hOffset vOffset interval enable) := fun _ _ => rfl

theorem invert (on : Bool) :
    Statement (.invert on) := fun _ _ => rfl

theorem reserved (b0 : Byte) :
    Statement (.reserved b0) := by
  intro ops h
  simp only [statedLength, encode, Instr.wire?, List.getD_cons_zero, List.length_singleton]
  exact (packetLength_reserved b0 _ h).symm

theorem renderAll : Statement .renderAll := fun _ _ => rfl

theorem clearRgb (r g b : Byte) :
    Statement (.clearRgb r g b) := fun _ _ => rfl

theorem opSetColumn (first last : Byte) :
    Statement (.opSetColumn first last) := fun _ _ => rfl

theorem opSetRow (first last : Byte) :
    Statement (.opSetRow first last) := fun _ _ => rfl

theorem opScrollSetup (hOffset startRow numRows vOffset interval : Byte) :
    Statement (.opScrollSetup hOffset startRow numRows vOffset interval) := fun _ _ => rfl

theorem opScrollOff (params : List Byte) :
    Statement (.opScrollOff params) := fun ops h => command ops rfl h

theorem opScrollOn (params : List Byte) :
    Statement (.opScrollOn params) := fun ops h => command ops rfl h

theorem opContrastA (params : List Byte) :
    Statement (.opContrastA params) := fun ops h => command ops rfl h

theorem opContrastB (params : List Byte) :
    Statement (.opContrastB params) := fun ops h => command ops rfl h

theorem opContrastC (params : List Byte) :
    Statement (.opContrastC params) := fun ops h => command ops rfl h

theorem opMasterCurrent (params : List Byte) :
    Statement (.opMasterCurrent params) := fun ops h => command ops rfl h

theorem opPrechargeA (params : List Byte) :
    Statement (.opPrechargeA params) := fun ops h => command ops rfl h

theorem opPrechargeB (params : List Byte) :
    Statement (.opPrechargeB params) := fun ops h => command ops rfl h

theorem opPrechargeC (params : List Byte) :
    Statement (.opPrechargeC params) := fun ops h => command ops rfl h

theorem opSetRemap (params : List Byte) :
    Statement (.opSetRemap params) := fun ops h => command ops rfl h

theorem opStartLine (params : List Byte) :
    Statement (.opStartLine params) := fun ops h => command ops rfl h

theorem opDisplayOffset (params : List Byte) :
    Statement (.opDisplayOffset params) := fun ops h => command ops rfl h

theorem opNormalDisplay (params : List Byte) :
    Statement (.opNormalDisplay params) := fun ops h => command ops rfl h

theorem opInvertDisplay (params : List Byte) :
    Statement (.opInvertDisplay params) := fun ops h => command ops rfl h

theorem opSetMultiplex (params : List Byte) :
    Statement (.opSetMultiplex params) := fun ops h => command ops rfl h

theorem opSetMaster (params : List Byte) :
    Statement (.opSetMaster params) := fun ops h => command ops rfl h

theorem opDisplayOff (params : List Byte) :
    Statement (.opDisplayOff params) := fun ops h => command ops rfl h

theorem opDisplayOn (params : List Byte) :
    Statement (.opDisplayOn params) := fun ops h => command ops rfl h

theorem opPowerMode (params : List Byte) :
    Statement (.opPowerMode params) := fun ops h => command ops rfl h

theorem opPhaseAdjust (params : List Byte) :
    Statement (.opPhaseAdjust params) := fun ops h => command ops rfl h

theorem opClockDiv (params : List Byte) :
    Statement (.opClockDiv params) := fun ops h => command ops rfl h

theorem opPrechargeLevel (params : List Byte) :
    Statement (.opPrechargeLevel params) := fun ops h => command ops rfl h

theorem opVcomh (params : List Byte) :
    Statement (.opVcomh params) := fun ops h => command ops rfl h

end Sys2Proof.Laws.EncodedLength
end

