-- ==== Sys2Proof/Machine/Assembler.lean ====
section
/-! DEFINITION. The textual form of a request (30_encoding.md R95, R96): one line, a mnemonic, then operands
separated by commas; `;` starts a comment. A line is a list of characters. An operand outside its field's range, or
a line of any other form, has no instruction (log entry 21). -/

namespace Sys2Proof.Machine

/-- A token of a line. -/
inductive Token where
  /-- A mnemonic or a number: letters, digits and a leading minus. -/
  | word (cs : List Char)
  /-- A character in single quotes. -/
  | chr (b : Byte)
  /-- A text in double quotes. -/
  | text (bs : List Byte)
  | comma
  deriving DecidableEq, Repr

/-- Where the reader of a line is; the accumulators are reversed. -/
inductive LexState where
  | start
  | word (acc : List Char)
  | quote
  | closeQuote (b : Byte)
  | text (acc : List Byte)
  | escape (acc : List Byte)
  | hex (acc : List Byte)
  | hexLow (acc : List Byte) (high : Nat)
  deriving DecidableEq, Repr

/-- The value of a hexadecimal digit. -/
def hexDigit (c : Char) : Option Nat :=
  if '0'.toNat ≤ c.toNat ∧ c.toNat ≤ '9'.toNat then some (c.toNat - '0'.toNat)
  else if 'a'.toNat ≤ c.toNat ∧ c.toNat ≤ 'f'.toNat then some (c.toNat - 'a'.toNat + 10)
  else if 'A'.toNat ≤ c.toNat ∧ c.toNat ≤ 'F'.toNat then some (c.toNat - 'A'.toNat + 10)
  else none

/-- A character that may stand in a mnemonic or a number. -/
def isWordChar (c : Char) : Bool :=
  (hexDigit c).isSome || c == '-' || (decide ('A'.toNat ≤ c.toNat) && decide (c.toNat ≤ 'Z'.toNat)) ||
  (decide ('a'.toNat ≤ c.toNat) && decide (c.toNat ≤ 'z'.toNat))

/-- The code of an ASCII character (30 R95). -/
def asciiCode (c : Char) : Option Byte := if c.toNat < 128 then some (BitVec.ofNat 8 c.toNat) else none

/-- The tokens of a line, one character at a time (30 R95). -/
def lex : LexState → List Char → Option (List Token)
  | .start, [] => some []
  | .start, c :: cs =>
    if c = ';' then some []
    else if c = ' ' ∨ c = '\t' then lex .start cs
    else if c = ',' then (lex .start cs).map (.comma :: ·)
    else if c = '\'' then lex .quote cs
    else if c = '"' then lex (.text []) cs
    else if isWordChar c then lex (.word [c]) cs
    else none
  | .word acc, [] => some [.word acc.reverse]
  | .word acc, c :: cs =>
    if isWordChar c then lex (.word (c :: acc)) cs
    else if c = ';' then some [.word acc.reverse]
    else if c = ',' then (lex .start cs).map fun ts => .word acc.reverse :: .comma :: ts
    else if c = ' ' ∨ c = '\t' then (lex .start cs).map (.word acc.reverse :: ·)
    else none
  | .quote, c :: cs => (asciiCode c).bind fun b => lex (.closeQuote b) cs
  | .closeQuote b, c :: cs => if c = '\'' then (lex .start cs).map (.chr b :: ·) else none
  | .text acc, c :: cs =>
    if c = '"' then (lex .start cs).map (.text acc.reverse :: ·)
    else if c = '\\' then lex (.escape acc) cs
    else (asciiCode c).bind fun b => lex (.text (b :: acc)) cs
  | .escape acc, c :: cs => if c = 'x' then lex (.hex acc) cs else none
  | .hex acc, c :: cs => (hexDigit c).bind fun h => lex (.hexLow acc h) cs
  | .hexLow acc h, c :: cs => (hexDigit c).bind fun l => lex (.text (BitVec.ofNat 8 (16 * h + l) :: acc)) cs
  | _, [] => none

/-- Digits of a base, most significant first. -/
def digits (base : Nat) : Nat → List Char → Option Nat
  | acc, [] => some acc
  | acc, c :: cs =>
    (hexDigit c).bind fun d => if d < base then digits base (base * acc + d) cs else none

/-- An unsigned number, decimal or hexadecimal after `0x` (30 R95). -/
def natural : List Char → Option Nat
  | [] => none
  | '0' :: 'x' :: c :: cs => digits 16 0 (c :: cs)
  | c :: cs => digits 10 0 (c :: cs)

/-- A `u8` operand that is no character: a number (30 R82, R95). DESIGN CHOICE: a quoted character is no such
operand, since 30 R95 names it for a character operand and says nothing of the others; safe, log entry 21. -/
def operandByte : Token → Option Byte
  | .word cs => (natural cs).bind fun n => if n < 256 then some (BitVec.ofNat 8 n) else none
  | _ => none

/-- A character operand: a number or a quoted character (30 R87, R95). -/
def operandChar : Token → Option Byte
  | .chr b => some b
  | t => operandByte t

/-- A `u16` operand (30 R82). -/
def operandColor : Token → Option Color
  | .word cs => (natural cs).bind fun n => if n < 65536 then some (BitVec.ofNat 16 n) else none
  | _ => none

/-- An `s16` operand, which may be negative (30 R82, R95). -/
def operandCoord : Token → Option Half
  | .word ('-' :: cs) => (natural cs).bind fun n => if n ≤ 32768 then some (BitVec.ofInt 16 (-(n : Int))) else none
  | .word cs => (natural cs).bind fun n => if n < 32768 then some (BitVec.ofNat 16 n) else none
  | _ => none

/-- A `bool8` operand is 0 or 1 (30 R95). -/
def operandBool : Token → Option Bool
  | .word ['0'] => some false
  | .word ['1'] => some true
  | _ => none

/-- The operands between commas. -/
def operands : List Token → Option (List Token)
  | [] => some []
  | [t] => if t = .comma then none else some [t]
  | t :: .comma :: u :: ts => if t = .comma then none else (operands (u :: ts)).map (t :: ·)
  | _ => none

/-- The request of a mnemonic and its operands (30 R95, R96). STRING's text stands before its colour. -/
def requestOf (name : List Char) (ops : List Token) : Option Instr :=
  if name = ['R', 'E', 'S', 'E', 'T'] then
    match ops with
    | [] => some .reset
    | _ => none
  else if name = ['C', 'L', 'E', 'A', 'R'] then
    match ops with
    | [c] => do some (.clear (← operandColor c))
    | _ => none
  else if name = ['R', 'E', 'N', 'D', 'E', 'R'] then
    match ops with
    | [a, b, c, d] => do some (.render (← operandByte a) (← operandByte b) (← operandByte c) (← operandByte d))
    | _ => none
  else if name = ['L', 'I', 'N', 'E'] then
    match ops with
    | [a, b, c, d, k] => do
      some (.line (← operandCoord a) (← operandCoord b) (← operandCoord c) (← operandCoord d) (← operandColor k))
    | _ => none
  else if name = ['C', 'H', 'A', 'R'] then
    match ops with
    | [x, y, ch, k] => do some (.char (← operandCoord x) (← operandCoord y) (← operandChar ch) (← operandColor k))
    | _ => none
  else if name = ['S', 'T', 'R', 'I', 'N', 'G'] then
    match ops with
    | [x, y, .text bs, k] => do
      if bs.length ≤ 255 then some (.string (← operandCoord x) (← operandCoord y) (← operandColor k) bs) else none
    | _ => none
  else if name = ['S', 'C', 'R', 'O', 'L', 'L'] then
    match ops with
    | [h, v, t, e] => do some (.scroll (← operandByte h) (← operandByte v) (← operandByte t) (← operandBool e))
    | _ => none
  else if name = ['I', 'N', 'V', 'E', 'R', 'T'] then
    match ops with
    | [v] => do some (.invert (← operandBool v))
    | _ => none
  else if name = ['R', 'E', 'N', 'D', 'E', 'R', 'A', 'L', 'L'] then
    match ops with
    | [] => some .renderAll
    | _ => none
  else if name = ['C', 'L', 'E', 'A', 'R', 'R', 'G', 'B'] then
    match ops with
    | [r, g, b] => do some (.clearRgb (← operandByte r) (← operandByte g) (← operandByte b))
    | _ => none
  else none

/-- The request a line stands for; an empty line or a comment has none (30 R95). -/
def assembleLine (line : List Char) : Option Instr :=
  match lex .start line with
  | some (.word name :: ts) => (operands ts).bind (requestOf name)
  | _ => none

end Sys2Proof.Machine
end

