-- ==== Sys2Proof/Tests/Slice0.lean ====
section
/-! SUPPORT. Tests with results taken from the spec's examples and vectors (95_test_vectors.md, and the worked
examples of the rules), and a witness for the hypotheses of every obligation that has some. -/

namespace Sys2Proof.Tests

open Sys2Proof.Machine Sys2Proof.Safety

/-! Helpers -/

/-- The next state of an outcome. -/
def after : Host.Outcome State Fault Refusal → Option State
  | .next t => some t
  | _ => none

/-- A state in Ready whose next transfers are answered as given. -/
def ready (answers : List Bool) : State := { State.reset with rstate := .ready, txScript := answers }

/-- The glyph `A` of the spec's examples (45 R211). -/
def glyphA : Vector Byte 8 := #v[0x18#8, 0x24#8, 0x42#8, 0x42#8, 0x7E#8, 0x42#8, 0x42#8, 0x00#8]

/-- The glyph `B` of the spec's examples (95, conventions). -/
def glyphB : Vector Byte 8 := #v[0x7C#8, 0x42#8, 0x42#8, 0x7C#8, 0x42#8, 0x42#8, 0x7C#8, 0x00#8]

/-- The power-on state with the glyphs of the spec's examples. -/
def fixture : State := { State.reset with glyphRom := (State.reset.glyphRom.set 1 glyphA).set 2 glyphB }

/-- A halted state: the first byte of the stream named no request. -/
def halted : State := { State.reset with fault := { kind := some .opcode, rqi := 0 } }

/-- What a test compares of a state: RSTATE, the fault, BUSY, RQI. -/
def status (s : State) : RState × Option FaultKind × Bool × Nat := (s.rstate, s.fault.kind, s.busy, s.rqi)

/-! Well-formedness: an ill-formed term for each check -/

/-- A text of 256 characters has no length byte (30 R88). -/
theorem test_wellFormed_refuses_long_text :
    (Instr.string 0#16 0#16 0#16 (List.replicate 256 0x41#8)).wellFormed defaultOpcodes = false := by decide +kernel

theorem test_wellFormed_accepts_longest_text :
    (Instr.string 0#16 0#16 0#16 (List.replicate 255 0x41#8)).wellFormed defaultOpcodes = true := by decide +kernel

/-- The bytes 01 to 08 name requests (30 R81, R92). -/
theorem test_wellFormed_refuses_request_bytes :
    (Instr.reserved 0x01#8).wellFormed defaultOpcodes = false ∧
    (Instr.reserved 0x08#8).wellFormed defaultOpcodes = false := by decide

theorem test_wellFormed_accepts_reserved_bytes :
    (Instr.reserved 0x00#8).wellFormed defaultOpcodes = true ∧
    (Instr.reserved 0x09#8).wellFormed defaultOpcodes = true ∧
    (Instr.reserved 0xFF#8).wellFormed defaultOpcodes = true := by decide

/-- A panel command has the number of parameters its table gives it (30 R99). -/
theorem test_wellFormed_refuses_parameter_counts :
    (Instr.opContrastA []).wellFormed defaultOpcodes = false ∧
    (Instr.opContrastA [0x91#8, 0x00#8]).wellFormed defaultOpcodes = false ∧
    (Instr.opDisplayOff [0x00#8]).wellFormed defaultOpcodes = false := by decide

theorem test_wellFormed_accepts_parameter_counts :
    (Instr.opContrastA [0x91#8]).wellFormed defaultOpcodes = true ∧
    (Instr.opDisplayOff []).wellFormed defaultOpcodes = true ∧
    (Instr.opSetColumn 0#8 95#8).wellFormed defaultOpcodes = true := by decide

/-! Decoding of words written out from the encodings -/

/-- 30 R83. -/
theorem test_decode_reset : decodeRequest [0x01#8] = .ok (.reset, []) := rfl

/-- 30 R84, with CLEARRGB's expansion (R96): 255, 0, 0 packs to F800 (95 V10). -/
theorem test_decode_clear :
    decodeRequest [0x02#8, 0xF8#8, 0x00#8] = .ok (.clear 0xF800#16, []) ∧
    decodeRequest (encode defaultOpcodes (.clearRgb 0xFF#8 0x00#8 0x00#8)) = .ok (.clear 0xF800#16, []) :=
  ⟨rfl, rfl⟩

/-- 30 R85, with RENDERALL's expansion (R96), packet 03 00 5F 00 3F. -/
theorem test_decode_render :
    decodeRequest [0x03#8, 0x08#8, 0x0F#8, 0x10#8, 0x17#8] = .ok (.render 8#8 15#8 16#8 23#8, []) ∧
    encode defaultOpcodes .renderAll = [0x03#8, 0x00#8, 0x5F#8, 0x00#8, 0x3F#8] := ⟨rfl, rfl⟩

/-- 30 R86, program P3 of 95. -/
theorem test_decode_line :
    decodeRequest [0x04#8, 0x00#8, 0x00#8, 0x00#8, 0x08#8, 0x00#8, 0x0F#8, 0x00#8, 0x08#8, 0x07#8, 0xE0#8] =
      .ok (.line 0#16 8#16 15#16 8#16 0x07E0#16, []) := rfl

/-- 30 R87, program P3 of 95. -/
theorem test_decode_char :
    decodeRequest [0x05#8, 0x00#8, 0x08#8, 0x00#8, 0x10#8, 0x41#8, 0xFF#8, 0xFF#8] =
      .ok (.char 8#16 16#16 0x41#8 0xFFFF#16, []) := rfl

/-- 30 R88, program P3 of 95, with one byte of the next packet after it. -/
theorem test_decode_string :
    decodeRequest [0x06#8, 0x00#8, 0x50#8, 0x00#8, 0x10#8, 0x00#8, 0x1F#8, 0x03#8, 0x61#8, 0x62#8, 0x21#8, 0x01#8] =
      .ok (.string 80#16 16#16 0x001F#16 [0x61#8, 0x62#8, 0x21#8], [0x01#8]) := rfl

/-- 30 R89, 95 V49: 02 is true. -/
theorem test_decode_scroll :
    decodeRequest [0x07#8, 0xFF#8, 0x3F#8, 0x03#8, 0x02#8] = .ok (.scroll 255#8 63#8 3#8 true, []) := rfl

/-- 30 R90, 95 V51, V52. -/
theorem test_decode_invert :
    decodeRequest [0x08#8, 0x00#8] = .ok (.invert false, []) ∧
    decodeRequest [0x08#8, 0xFF#8] = .ok (.invert true, []) := ⟨rfl, rfl⟩

/-- 30 R92, 95 V110, V111. -/
theorem test_decode_reserved :
    decodeRequest [0x00#8] = .ok (.reserved 0x00#8, []) ∧ decodeRequest [0x09#8] = .ok (.reserved 0x09#8, []) ∧
    decodeRequest [0x80#8] = .ok (.reserved 0x80#8, []) ∧ decodeRequest [0xFF#8] = .ok (.reserved 0xFF#8, []) :=
  ⟨rfl, rfl, rfl, rfl⟩

/-- 95 V113, V114: a packet that is not whole. -/
theorem test_decode_incomplete :
    decodeRequest [0x04#8, 0x00#8, 0x00#8, 0x00#8] = .error .incomplete ∧
    decodeRequest [0x06#8, 0x00#8, 0x00#8, 0x00#8, 0x00#8, 0xFF#8, 0xFF#8, 0x02#8, 0x41#8] = .error .incomplete ∧
    decodeRequest [] = .error .incomplete := ⟨rfl, rfl, rfl⟩

/-- 95 V115. -/
theorem test_packetLength :
    [0x01#8, 0x02#8, 0x03#8, 0x04#8, 0x05#8, 0x07#8, 0x08#8].map (packetLength · 0x00#8) = [1, 3, 5, 11, 8, 5, 2] ∧
    packetLength 0x06#8 0xFF#8 = 263 := by decide

/-- The default opcodes of 30 R99: addressing and scrolling. -/
theorem test_decode_wire_addressing :
    decodeWire defaultOpcodes [0x15#8, 0x03#8, 0x5F#8] = .ok (.opSetColumn 3#8 95#8, []) ∧
    decodeWire defaultOpcodes [0x75#8, 0x07#8, 0x3F#8] = .ok (.opSetRow 7#8 63#8, []) ∧
    decodeWire defaultOpcodes [0x27#8, 0x01#8, 0x02#8, 0x40#8, 0x04#8, 0x05#8] =
      .ok (.opScrollSetup 1#8 2#8 64#8 4#8 5#8, []) ∧
    decodeWire defaultOpcodes [0x2E#8] = .ok (.opScrollOff [], []) ∧
    decodeWire defaultOpcodes [0x2F#8] = .ok (.opScrollOn [], []) := ⟨rfl, rfl, rfl, rfl, rfl⟩

/-- The default opcodes of 30 R99: currents and precharge. -/
theorem test_decode_wire_drive :
    decodeWire defaultOpcodes [0x81#8, 0x91#8] = .ok (.opContrastA [0x91#8], []) ∧
    decodeWire defaultOpcodes [0x82#8, 0x50#8] = .ok (.opContrastB [0x50#8], []) ∧
    decodeWire defaultOpcodes [0x83#8, 0x7D#8] = .ok (.opContrastC [0x7D#8], []) ∧
    decodeWire defaultOpcodes [0x87#8, 0x06#8] = .ok (.opMasterCurrent [0x06#8], []) ∧
    decodeWire defaultOpcodes [0x8A#8, 0x64#8] = .ok (.opPrechargeA [0x64#8], []) ∧
    decodeWire defaultOpcodes [0x8B#8, 0x78#8] = .ok (.opPrechargeB [0x78#8], []) ∧
    decodeWire defaultOpcodes [0x8C#8, 0x64#8] = .ok (.opPrechargeC [0x64#8], []) ∧
    decodeWire defaultOpcodes [0xBB#8, 0x3A#8] = .ok (.opPrechargeLevel [0x3A#8], []) ∧
    decodeWire defaultOpcodes [0xBE#8, 0x3E#8] = .ok (.opVcomh [0x3E#8], []) :=
  ⟨rfl, rfl, rfl, rfl, rfl, rfl, rfl, rfl, rfl⟩

/-- The default opcodes of 30 R99: the mapping of the panel. -/
theorem test_decode_wire_mapping :
    decodeWire defaultOpcodes [0xA0#8, 0x72#8] = .ok (.opSetRemap [0x72#8], []) ∧
    decodeWire defaultOpcodes [0xA1#8, 0x00#8] = .ok (.opStartLine [0x00#8], []) ∧
    decodeWire defaultOpcodes [0xA2#8, 0x00#8] = .ok (.opDisplayOffset [0x00#8], []) ∧
    decodeWire defaultOpcodes [0xA4#8] = .ok (.opNormalDisplay [], []) ∧
    decodeWire defaultOpcodes [0xA7#8] = .ok (.opInvertDisplay [], []) ∧
    decodeWire defaultOpcodes [0xA8#8, 0x3F#8] = .ok (.opSetMultiplex [0x3F#8], []) :=
  ⟨rfl, rfl, rfl, rfl, rfl, rfl⟩

/-- The default opcodes of 30 R99: power and timing. -/
theorem test_decode_wire_power :
    decodeWire defaultOpcodes [0xAD#8, 0x8E#8] = .ok (.opSetMaster [0x8E#8], []) ∧
    decodeWire defaultOpcodes [0xAE#8] = .ok (.opDisplayOff [], []) ∧
    decodeWire defaultOpcodes [0xAF#8] = .ok (.opDisplayOn [], []) ∧
    decodeWire defaultOpcodes [0xB0#8, 0x0B#8] = .ok (.opPowerMode [0x0B#8], []) ∧
    decodeWire defaultOpcodes [0xB1#8, 0x31#8] = .ok (.opPhaseAdjust [0x31#8], []) ∧
    decodeWire defaultOpcodes [0xB3#8, 0xF0#8] = .ok (.opClockDiv [0xF0#8], []) := ⟨rfl, rfl, rfl, rfl, rfl, rfl⟩

/-- A table with three parameters for OP_VCOMH and one for OP_DISPLAYON (30 R99: the counts are open). -/
def otherCounts : Opcodes :=
  { defaultOpcodes with counts := { defaultCounts with vcomh := 3, displayOn := 1 } }

theorem test_decode_wire_other_counts :
    decodeWire otherCounts [0xBE#8, 0x01#8, 0x02#8, 0x03#8, 0xAF#8] =
      .ok (.opVcomh [0x01#8, 0x02#8, 0x03#8], [0xAF#8]) ∧
    decodeWire otherCounts [0xAF#8, 0x07#8, 0xAE#8] = .ok (.opDisplayOn [0x07#8], [0xAE#8]) ∧
    decodeWire otherCounts [0xBE#8, 0x01#8, 0x02#8] = .error .incomplete ∧
    encode otherCounts (.opVcomh [0x01#8, 0x02#8, 0x03#8]) = [0xBE#8, 0x01#8, 0x02#8, 0x03#8] := ⟨rfl, rfl, rfl, rfl⟩

/-- A byte that begins no panel command, and a command cut short. -/
theorem test_decode_wire_refuses :
    decodeWire defaultOpcodes [0x00#8] = .error (.unknownCommand 0x00#8) ∧
    decodeWire defaultOpcodes [0x15#8, 0x00#8] = .error .incomplete := ⟨rfl, rfl⟩

/-- The opcode table numbers the bytes from the least significant one. -/
theorem test_table_words :
    decodeTableWord 24 0x00F802 = some (.clear 0xF800#16) ∧
    decodeTableWord 24 0x5F0015 = some (.opSetColumn 0#8 95#8) ∧
    decodeTableWord 64 0x06 = some (.string 0#16 0#16 0#16 []) ∧
    decodeTableWord 8 0x09 = some (.reserved 0x09#8) := by decide +kernel

/-! Colours, areas, points, characters -/

/-- 95 V10 to V17. -/
theorem test_rgb565 :
    rgb565 0xFF#8 0x00#8 0x00#8 = 0xF800#16 ∧ rgb565 0x00#8 0xFF#8 0x00#8 = 0x07E0#16 ∧
    rgb565 0x00#8 0x00#8 0xFF#8 = 0x001F#16 ∧ rgb565 0x07#8 0x03#8 0x07#8 = 0x0000#16 ∧
    rgb565 0x12#8 0x34#8 0x56#8 = 0x11AA#16 ∧ expand565 0x11AA#16 = (0x10#8, 0x34#8, 0x50#8) := by decide

/-- 95 V35 to V39. -/
theorem test_areas :
    RenderArea.valid ⟨3#8, 3#8, 0#8, 63#8⟩ = true ∧ RenderArea.byteLength ⟨3#8, 3#8, 0#8, 63#8⟩ = 128 ∧
    RenderArea.byteLength ⟨0#8, 95#8, 7#8, 7#8⟩ = 192 ∧ RenderArea.valid ⟨95#8, 0#8, 0#8, 0#8⟩ = false ∧
    RenderArea.valid ⟨0#8, 0#8, 63#8, 62#8⟩ = false ∧ RenderArea.valid ⟨96#8, 96#8, 0#8, 0#8⟩ = false := by decide

/-- 95 V60 to V63 and V68: the points and their order, by direction. -/
theorem test_line_points :
    linePoints 0 0 4 1 = [(0, 0), (1, 0), (2, 1), (3, 1), (4, 1)] ∧
    linePoints 4 1 0 0 = [(4, 1), (3, 1), (2, 0), (1, 0), (0, 0)] ∧
    linePoints 0 0 2 1 = [(0, 0), (1, 1), (2, 1)] ∧
    linePoints 90 60 95 63 = [(90, 60), (91, 61), (92, 61), (93, 62), (94, 62), (95, 63)] := by decide

/-- 44 R192: a steep line, upwards and to the left, and the error term at each point. -/
theorem test_line_steep :
    linePoints 10 10 7 4 = [(10, 10), (9, 9), (9, 8), (8, 7), (8, 6), (7, 5), (7, 4)] ∧
    (lineStates lineFuel (LineRegs.setup LineRegs.reset 10 10 7 4)).map (·.err) = [-3, -6, -3, -6, -3, -6, -3] := by
  decide

/-- 95 V80 to V89. -/
theorem test_glyph_indices :
    ([0x41#8, 0x5A#8, 0x61#8, 0x7A#8, 0x30#8, 0x39#8, 0x2E#8, 0x3A#8].map fun c => (charToGlyphIndex c).val) =
      [1, 26, 1, 26, 27, 36, 37, 38] ∧
    ([0x20#8, 0x21#8, 0x40#8, 0x5B#8, 0x60#8, 0x7B#8, 0x2F#8, 0x3B#8, 0x00#8, 0xFF#8, 0x0E#8, 0x1A#8, 0xC1#8,
      0xE1#8].map fun c => (charToGlyphIndex c).val) = List.replicate 14 0 := by decide

/-! One step of each request -/

/-- 95 V33: RESET whose first transfer fails. -/
theorem test_reset_first_byte_fails :
    (after (exec .reset { State.reset with txScript := [false] })).map (fun t => (status t, t.trace)) =
      some ((.resetReleasedSettling, some .init, false, 0),
        [.res .deasserted, .cs .deasserted, .delay 5, .res .asserted, .delay 80, .res .deasserted, .delay 20,
          .cs .asserted, .dc .command, .txFail [0xAE#8]]) ∧
    (after (exec .reset { State.reset with txScript := [false] })).map linesOf =
      some { cs := .asserted, dc := .command, res := .deasserted } := ⟨by decide, by decide⟩

/-- 95 V29: RESET from power-on has 222 events, and ends Ready with RQI 1. -/
theorem test_reset_completes :
    (after (exec .reset { State.reset with txScript := List.replicate 43 true })).map (fun t =>
      (status t, t.trace.length, linesOf t)) = some ((.ready, none, false, 1), 222, Lines.rest) := by decide +kernel

/-- 95 V45: CLEAR before Ready raises before the fill. -/
theorem test_clear_before_ready :
    (after (exec (.clear 0x1234#16) State.reset)).map (fun t => (status t, t.fb, t.trace)) =
      some ((.idle, some .order, false, 0), [], []) := by decide

/-- 95 V46: CLEAR whose burst fails keeps the fill, and the six window bytes have been sent. -/
theorem test_clear_burst_fails :
    (after (exec (.clear 0x001F#16) (ready [true, true, true, true, true, true, false]))).map (fun t =>
      (status t, t.fbWord 200, t.trace.length, t.trace.take 30)) =
    some ((.ready, some .burst, false, 0), 0x001F#16, 33,
      sequenceEvents [0x15#8, 0x00#8, 0x5F#8, 0x75#8, 0x00#8, 0x3F#8]) := by decide +kernel

/-- 95 V41: an inverted area. -/
theorem test_render_invalid_area :
    (after (exec (.render 10#8 9#8 0#8 0#8) (ready []))).map (fun t => (status t, t.trace)) =
      some ((.ready, some .area, false, 0), []) := by decide

/-- 95 V40: the last pixel, high byte first. -/
theorem test_render_last_pixel :
    (after (exec (.render 95#8 95#8 63#8 63#8) (writeWord 6143 0xABCD#16 (ready (List.replicate 7 true))))).map
      (fun t => (status t, t.trace)) =
    some ((.ready, none, false, 1),
      sequenceEvents [0x15#8, 0x5F#8, 0x5F#8, 0x75#8, 0x3F#8, 0x3F#8] ++ burstEvents [0xAB#8, 0xCD#8]) := by decide

/-- RENDERALL whose burst fails: the window has been sent (46 R231, 60 R262). -/
theorem test_renderAll_window :
    (after (exec .renderAll (ready [true, true, true, true, true, true, false]))).map (fun t =>
      (status t, t.trace.length, t.trace.take 30)) =
    some ((.ready, some .burst, false, 0), 33,
      sequenceEvents [0x15#8, 0x00#8, 0x5F#8, 0x75#8, 0x00#8, 0x3F#8]) := by decide

/-- CLEARRGB before Ready (46 R237). -/
theorem test_clearRgb_before_ready :
    (after (exec (.clearRgb 0xFF#8 0x00#8 0x00#8) State.reset)).map status =
      some (.idle, some .order, false, 0) := by decide

/-- 95 V65, V73: LINE before Ready, along the right edge. -/
theorem test_line_right_edge :
    (after (exec (.line 95#16 0#16 95#16 3#16 0xF800#16) State.reset)).map (fun t => (status t, t.trace, t.fb)) =
    some ((.idle, none, false, 1), [],
      [(190, 0xF8#8), (191, 0x00#8), (382, 0xF8#8), (383, 0x00#8), (574, 0xF8#8), (575, 0x00#8), (766, 0xF8#8),
        (767, 0x00#8)]) := by decide

/-- 95 V72: LINE to a negative row. -/
theorem test_line_off_panel :
    (after (exec (.line 0#16 0xFFFF#16 0#16 0#16 0#16) State.reset)).map (fun t => (status t, t.fb)) =
      some ((.idle, some .coord, false, 0), []) := by decide

/-- 45 R211: row 0 and row 4 of the worked example. -/
theorem test_char_example :
    (after (exec (.char 8#16 16#16 0x41#8 0xFFFF#16) fixture)).map (fun t =>
      (status t, (List.range 8).map fun c => t.fbWord (1544 + c), (List.range 8).map fun c => t.fbWord (1928 + c))) =
    some ((.idle, none, false, 1),
      [0x0000#16, 0x0000#16, 0x0000#16, 0xFFFF#16, 0xFFFF#16, 0x0000#16, 0x0000#16, 0x0000#16],
      [0x0000#16, 0xFFFF#16, 0xFFFF#16, 0xFFFF#16, 0xFFFF#16, 0xFFFF#16, 0xFFFF#16, 0x0000#16]) := by decide

/-- 95 V92: CHAR one column too far right, and at the most negative column. -/
theorem test_char_clipped :
    (after (exec (.char 89#16 56#16 0x41#8 0xFFFF#16) fixture)).map (fun t => (status t, t.fb)) =
      some ((.idle, none, false, 1), []) ∧
    (after (exec (.char 0x8000#16 0#16 0x41#8 0xFFFF#16) fixture)).map (fun t => (status t, t.fb)) =
      some ((.idle, none, false, 1), []) := ⟨by decide, by decide⟩

/-- 95 V95: row 0 of the two cells drawn; the third character is skipped and nothing wraps to the next row. -/
theorem test_string_off_the_edge :
    (after (exec (.string 80#16 16#16 0x001F#16 [0x61#8, 0x62#8, 0x21#8]) fixture)).map (fun t =>
      (status t, (List.range 16).map fun c => t.fbWord (16 * 96 + 80 + c), t.fb.length)) =
    some ((.idle, none, false, 1),
      [0x0000#16, 0x0000#16, 0x0000#16, 0x001F#16, 0x001F#16, 0x0000#16, 0x0000#16, 0x0000#16,
        0x0000#16, 0x001F#16, 0x001F#16, 0x001F#16, 0x001F#16, 0x001F#16, 0x0000#16, 0x0000#16], 256) := by decide +kernel

/-- 95 V96: the source's example. -/
theorem test_string_clipped :
    (after (exec (.string 92#16 0#16 0xFFFF#16 [0x48#8, 0x49#8]) fixture)).map (fun t => (status t, t.fb)) =
      some ((.idle, none, false, 1), []) := by decide

/-- 95 V49: operands unmasked, the switch last. -/
theorem test_scroll_unmasked :
    (after (exec (.scroll 255#8 63#8 3#8 true) (ready (List.replicate 7 true)))).map (fun t => (status t, t.trace)) =
    some ((.ready, none, false, 1),
      sequenceEvents [0x27#8, 0xFF#8, 0x00#8, 0x40#8, 0x3F#8, 0x03#8, 0x2F#8]) := by decide

/-- 95 V50, V51. -/
theorem test_invert :
    (after (exec (.invert true) (ready [true]))).map (fun t => (status t, t.trace)) =
      some ((.ready, none, false, 1), commandEvents 0xA7#8) ∧
    (after (exec (.invert false) (ready [true]))).map (fun t => (status t, t.trace)) =
      some ((.ready, none, false, 1), commandEvents 0xA4#8) := ⟨by decide, by decide⟩

/-- 95 V112: the fault of a reserved byte carries the current RQI. -/
theorem test_reserved :
    (after (exec (.reserved 0x09#8) { ready [] with rqi := 1 })).map (fun t =>
      (status t, t.fault.rqi, t.fault.image)) = some ((.ready, some .opcode, false, 1), 1, 0x07#6) := by decide

/-- 95 V21, V26: a panel command byte by byte, and one whose second byte fails. -/
theorem test_wire_setColumn :
    (after (exec (.opSetColumn 0#8 95#8) (ready [true, true, true]))).map (·.trace) =
      some (sequenceEvents [0x15#8, 0x00#8, 0x5F#8]) ∧
    (after (exec (.opSetColumn 0#8 95#8) (ready [true, false]))).map (fun t => (status t, t.trace)) =
      some ((.ready, some .command, false, 0), commandEvents 0x15#8 ++ failedCommandEvents 0x00#8) := ⟨by decide, by decide⟩

/-- 42 R155: the third byte of the default program is a row bound; its command is sent in RESET's own state. -/
theorem test_wire_init_fault :
    (after (exec (.opSetRow 0#8 63#8) { State.reset with rstate := .resetReleasedSettling, txScript := [false] })).map
      status = some (.resetReleasedSettling, some .init, false, 0) := by decide

/-! Whole steps -/

/-- 95 V112: the byte 09 is one packet; the next byte is not taken. -/
theorem test_step_illegal_request :
    (after (step { ready [] with requests := [0x09#8, 0x01#8] })).map (fun t => (status t, t.requests)) =
      some ((.ready, some .opcode, false, 0), [0x01#8]) := by decide

/-- 95 V116: a halted block takes nothing. -/
theorem test_step_halted :
    (after (step { halted with requests := [0x01#8] })).map (fun t => (status t, t.requests, t.trace)) =
      some ((.idle, some .opcode, false, 0), [0x01#8], []) := by decide

/-- A busy streamer goes on with the next command of its sequence (41 R131). -/
theorem test_step_pending_command :
    (after (step { ready [true, true] with busy := true, pending := [0xA0#8, 0x72#8, 0xAF#8] })).map (fun t =>
      (t.busy, t.pending, t.trace)) = some (true, [0xAF#8], sequenceEvents [0xA0#8, 0x72#8]) := by decide

/-- The model's only stop: a request half done with nothing left to send (log entry 10). -/
theorem test_step_request_not_held :
    (match step { State.reset with busy := true } with
      | .fault .requestNotHeld => true
      | _ => false) = true := by decide

/-- 70 R305: a run of one packet ends in success once its request has completed, and not before. -/
theorem test_success_counts_requests :
    success 1 State.reset = false ∧
    (after (step { ready [true] with requests := [0x08#8, 0x01#8] })).map (success 1) = some true := by decide

/-- 70 R305, R300: a power-on reset that drops the program's packet is no success, and a halted state never is. -/
theorem test_success_needs_every_packet :
    (after (step { State.reset with powerOnSignal := true, requests := [0x01#8] })).map (success 1) = some false ∧
    success 0 halted = false ∧ endedInFault halted = true := by decide

/-- 70 R304: what the host polls, with the fault images of 95 V117 and the RSTATE codes of 95 V34. -/
theorem test_host_status :
    (halted.hostStatus.faultImage, State.reset.hostStatus.faultImage, (ready []).hostStatus.rstate) =
      (0x07#6, 0x00#6, 3#2) := by decide

/-- 10 R24: the lines are active low by default. -/
theorem test_line_levels :
    State.reset.csLevel = .high ∧ State.reset.dcLevel = .high ∧ State.reset.resLevel = .high ∧
    (setDC .command State.reset).dcLevel = .low := by decide

/-! The textual form (30 R95) -/

theorem test_assemble_line :
    assembleLine "LINE 0, -1, 0x5F, 63, 0xF800 ; a comment".toList =
      some (.line 0#16 0xFFFF#16 95#16 63#16 0xF800#16) := by decide

theorem test_assemble_string :
    assembleLine "STRING 80, 16, \"a\\x00!\", 31".toList =
      some (.string 80#16 16#16 0x001F#16 [0x61#8, 0x00#8, 0x21#8]) := by decide

theorem test_assemble_char : assembleLine "CHAR 8, 16, 'A', 0xFFFF".toList =
    some (.char 8#16 16#16 0x41#8 0xFFFF#16) := by decide

theorem test_assemble_others :
    assembleLine "RESET".toList = some .reset ∧ assembleLine "INVERT 1".toList = some (.invert true) ∧
    assembleLine "CLEARRGB 255,0,0".toList = some (.clearRgb 0xFF#8 0x00#8 0x00#8) ∧
    assembleLine "RENDER 'A', 90, 0, 0".toList = none ∧ assembleLine "CHAR 0, 0, 65, 0".toList =
      some (.char 0#16 0#16 0x41#8 0x0000#16) ∧ assembleLine "; nothing".toList = none ∧
    assembleLine "CLEAR 65536".toList = none := by decide

/-! Witnesses: states and operands that meet the hypotheses of each obligation that has some, one for each clause
and at the ends of its ranges -/

theorem witness_RequestDecodeOfEncode :
    (Instr.string 0#16 0#16 0#16 [0x41#8]).wellFormed defaultOpcodes = true ∧
    (Instr.string 0#16 0#16 0#16 [0x41#8]).wire? = none ∧
    (Instr.reserved 0x09#8).wellFormed defaultOpcodes = true ∧ (Instr.reserved 0x09#8).wire? = none := by decide

theorem witness_WireDecodeOfEncode :
    defaultOpcodes.Distinct ∧ (Instr.opSetRow 0#8 63#8).wellFormed defaultOpcodes = true ∧
    (Instr.opSetRow 0#8 63#8).wire? = some (.setRow, [0#8, 63#8]) ∧
    (Instr.opDisplayOn []).wellFormed defaultOpcodes = true ∧ (Instr.opDisplayOn []).wire? = some (.displayOn, []) ∧
    otherCounts.Distinct ∧ (Instr.opDisplayOn [7#8]).wellFormed otherCounts = true ∧
    (Instr.opDisplayOn [7#8]).wire? = some (.displayOn, [7#8]) := by decide

theorem witness_DecodedPacketHasPacketLength :
    decodeRequest [0x01#8, 0x08#8] = .ok (.reset, [0x08#8]) ∧
    decodeRequest [0x06#8, 0#8, 0#8, 0#8, 0#8, 0#8, 0#8, 0x01#8, 0x41#8] =
      .ok (.string 0#16 0#16 0#16 [0x41#8], []) := ⟨rfl, rfl⟩

/-- A live, idle state whose request stream is given. -/
def asked (requests : List Byte) : State := { State.reset with requests := requests }

theorem witness_StepRunsTheDecodedRequest :
    (asked [0x01#8]).powerOnSignal = false ∧ (asked [0x01#8]).halted = false ∧ (asked [0x01#8]).busy = false ∧
    decodeRequest (asked [0x01#8]).requests = .ok (.reset, []) := ⟨rfl, rfl, rfl, rfl⟩

/-- A live state in the middle of a command sequence. -/
def sending (pending : List Byte) : State := { State.reset with busy := true, pending := pending }

theorem witness_StepRunsThePendingCommand :
    (sending [0xAF#8]).powerOnSignal = false ∧ (sending [0xAF#8]).halted = false ∧ (sending [0xAF#8]).busy = true ∧
    decodeWire (sending [0xAF#8]).cfg.ops (sending [0xAF#8]).pending = .ok (.opDisplayOn [], []) :=
  ⟨rfl, rfl, rfl, rfl⟩

theorem witness_WaitingAndHaltedBlocksDoNotMove :
    (halted.powerOnSignal = false ∧ halted.halted = true) ∧
    ((asked [0x08#8]).powerOnSignal = false ∧ (asked [0x08#8]).busy = false ∧
      decodeRequest (asked [0x08#8]).requests = .error .incomplete) := ⟨⟨rfl, rfl⟩, rfl, rfl, rfl⟩

theorem witness_StepRunsThePlacedWord :
    State.reset.cfg.ops.Distinct ∧ decodeTableWord 16 0x0108 = some (.invert true) ∧
    (Instr.invert true).wellFormed State.reset.cfg.ops = true ∧ decodeTableWord 8 0xAF = some (.opDisplayOn []) ∧
    (Instr.opDisplayOn []).wellFormed State.reset.cfg.ops = true :=
  ⟨by decide, by decide +kernel, by decide, by decide +kernel, by decide⟩

theorem witness_PowerOnResetFromAnyState :
    { halted with powerOnSignal := true }.powerOnSignal = true ∧ halted.powerOnSignal = false ∧
    halted.halted = true := ⟨rfl, rfl, rfl⟩

/-- A state that meets the invariant: a request is waiting at a live block before Ready. -/
theorem asked_inv (requests : List Byte) : BlockInv (asked requests) where
  memory := rfl
  blank := by intro r; simp [asked, State.reset, defaultGlyphRom]
  framed := rfl
  lines := rfl
  rest := fun _ => ⟨rfl, rfl⟩
  resetLine := rfl
  notBusy := fun h => nomatch h
  sent := fun _ => rfl
  rstate := fun h => nomatch h
  settled := fun _ _ => .inl rfl
  noPlot := fun h => nomatch h
  faultRqi := rfl

theorem witness_EveryStepKeepsInvariant :
    BlockInv (asked [0x08#8, 0x01#8]) ∧ ∃ t, step (asked [0x08#8, 0x01#8]) = .next t := ⟨asked_inv _, _, rfl⟩

theorem witness_SendCommandFramesOneByte :
    (ready [true]).halted = false ∧ (ready [true]).txOk 0 = true ∧
    (ready [false]).halted = false ∧ (ready [false]).txOk 0 = false := by decide

theorem witness_SequenceSendsEveryByteAlone :
    (ready [true, true]).halted = false ∧ txAllOk (ready [true, true]) [0x15#8, 0x00#8].length ∧
    txAllOk (ready []) ([] : List Byte).length ∧ txFailsAt (ready [false]) 0 ∧ 0 < [0x15#8].length ∧
    txFailsAt (ready [true, false]) 1 ∧ 1 < [0x15#8, 0x00#8].length := by decide

theorem witness_PixelBurstIsOneTransfer :
    (ready [true]).halted = false ∧ (ready [true]).txOk 0 = true ∧ (ready [false]).txOk 0 = false := by decide

/-- Forty-three transfers that succeed. -/
def resetting : State := { State.reset with txScript := List.replicate 43 true }

theorem witness_ResetPulsesInitialisesAndBecomesReady :
    resetting.halted = false ∧ txAllOk resetting resetting.cfg.initProg.length := by decide +kernel

theorem witness_ResetStopsAtAFailedInitByte :
    { State.reset with txScript := List.replicate 42 true ++ [false] }.halted = false ∧
    42 < State.reset.cfg.initProg.length ∧
    txFailsAt { State.reset with txScript := List.replicate 42 true ++ [false] } 42 ∧
    txFailsAt { State.reset with txScript := [false] } 0 := by decide +kernel

/-- Ready, with seven transfers that succeed. -/
def ready7 : State := ready (List.replicate 7 true)

theorem witness_ClearFillsAndRendersTheFullFrame :
    clearsTo (.clear 0x001F#16) 0x001F#16 ∧ clearsTo (.clearRgb 0xFF#8 0x00#8 0x00#8) 0xF800#16 ∧
    ready7.halted = false ∧ ready7.rstate = .ready ∧ txAllOk ready7 7 :=
  ⟨.inl rfl, .inr ⟨_, _, _, rfl, by decide⟩, by decide, by decide, by decide⟩

theorem witness_ClearKeepsTheFillWhenATransferFails :
    clearsTo (.clear 0x001F#16) 0x001F#16 ∧ (ready [false]).halted = false ∧ (ready [false]).rstate = .ready ∧
    txFailsAt (ready [false]) 0 ∧ 0 < (addressWindow (ready [false]).cfg.ops fullFrame).length ∧
    txFailsAt (ready (List.replicate 5 true ++ [false])) 5 ∧ txFailsAt (ready (List.replicate 6 true ++ [false])) 6 :=
  ⟨.inl rfl, by decide, by decide, by decide, by decide, by decide, by decide⟩

theorem witness_RenderSendsWindowThenRegion :
    rendersArea (.render 95#8 95#8 63#8 63#8) ⟨95#8, 95#8, 63#8, 63#8⟩ ∧
    RenderArea.valid ⟨95#8, 95#8, 63#8, 63#8⟩ = true ∧ rendersArea .renderAll fullFrame ∧ fullFrame.valid = true ∧
    ready7.halted = false ∧ ready7.rstate = .ready ∧ txAllOk ready7 7 :=
  ⟨.inl rfl, by decide, .inr ⟨rfl, rfl⟩, by decide, by decide, by decide, by decide⟩

theorem witness_RegionBytesAreRowMajor :
    fullFrame.valid = true ∧ fullFrame.startRow.toNat ≤ 63 ∧ 63 ≤ fullFrame.endRow.toNat ∧
    fullFrame.startCol.toNat ≤ 95 ∧ 95 ≤ fullFrame.endCol.toNat ∧ fullFrame.startRow.toNat ≤ 0 := by decide

theorem witness_ByteLengthBounds :
    fullFrame.valid = true ∧ fullFrame.byteLength = 12288 ∧ RenderArea.valid ⟨0#8, 0#8, 0#8, 0#8⟩ = true ∧
    RenderArea.byteLength ⟨0#8, 0#8, 0#8, 0#8⟩ = 2 := by decide

theorem witness_InvalidAreaFaultsBeforeAnyEvent :
    ¬ ((0#8).toNat ≤ (96#8).toNat ∧ (96#8).toNat ≤ 95 ∧ (0#8).toNat ≤ (0#8).toNat ∧ (0#8).toNat ≤ 63) ∧
    ¬ ((0#8).toNat ≤ (0#8).toNat ∧ (0#8).toNat ≤ 95 ∧ (0#8).toNat ≤ (64#8).toNat ∧ (64#8).toNat ≤ 63) ∧
    ¬ ((1#8).toNat ≤ (0#8).toNat ∧ (0#8).toNat ≤ 95 ∧ (0#8).toNat ≤ (0#8).toNat ∧ (0#8).toNat ≤ 63) ∧
    ready7.halted = false ∧ ready7.rstate = .ready := by decide

theorem witness_BusRequestsBeforeReadyFault :
    (needsReady (.clear 0#16) = true ∧ needsReady (.render 1#8 0#8 0#8 0#8) = true ∧
      needsReady (.scroll 0#8 0#8 0#8 true) = true ∧ needsReady (.invert true) = true ∧
      needsReady .renderAll = true ∧ needsReady (.clearRgb 0#8 0#8 0#8) = true ∧ State.reset.halted = false ∧
      State.reset.rstate ≠ .ready) ∧
    (draws (.line 0#16 0#16 0#16 0#16 0#16) = true ∧ draws (.string 0#16 0#16 0#16 []) = true ∧
      ∃ t, exec (.char 89#16 0#16 0#8 0#16) State.reset = .next t ∧ draws (.char 89#16 0#16 0#8 0#16) = true) :=
  ⟨by decide, rfl, rfl, _, rfl, rfl⟩

theorem witness_ScrollSendsSetupThenSwitch :
    ready7.halted = false ∧ ready7.rstate = .ready ∧ txAllOk ready7 7 ∧ State.reset.halted = false ∧
    State.reset.rstate ≠ .ready ∧ txFailsAt (ready [false]) 0 ∧
    txFailsAt (ready (List.replicate 6 true ++ [false])) 6 := by decide

theorem witness_InvertSendsOneOpcode :
    ready7.halted = false ∧ ready7.rstate = .ready ∧ ready7.txOk 0 = true ∧ State.reset.rstate ≠ .ready ∧
    (ready [false]).txOk 0 = false := by decide

theorem witness_RenderHaltsAtItsFirstFailedTransfer :
    rendersArea (.render 0#8 0#8 0#8 0#8) ⟨0#8, 0#8, 0#8, 0#8⟩ ∧ RenderArea.valid ⟨0#8, 0#8, 0#8, 0#8⟩ = true ∧
    rendersArea .renderAll fullFrame ∧ fullFrame.valid = true ∧ (ready [false]).halted = false ∧
    (ready [false]).rstate = .ready ∧ txFailsAt (ready [false]) 0 ∧
    txFailsAt (ready (List.replicate 5 true ++ [false])) 5 ∧
    txFailsAt (ready (List.replicate 6 true ++ [false])) 6 :=
  ⟨.inl rfl, by decide, .inr ⟨rfl, rfl⟩, by decide, by decide, by decide, by decide, by decide, by decide⟩

theorem witness_LineColoursExactlyItsPoints :
    State.reset.halted = false ∧
    (onPanel (coord 0#16) (coord 0#16) ∧ onPanel (coord 95#16) (coord 63#16)) ∧
    ¬ (onPanel (coord 0#16) (coord 0#16) ∧ onPanel (coord 96#16) (coord 0#16)) ∧
    ¬ (onPanel (coord 0#16) (coord 0xFFFF#16) ∧ onPanel (coord 0#16) (coord 0#16)) ∧
    ¬ (onPanel (coord 0#16) (coord 0#16) ∧ onPanel (coord 0#16) (coord 64#16)) := by decide

theorem witness_LinePointsGuarantee : onPanel 0 0 = true ∧ onPanel 95 63 = true := by decide

theorem witness_LineRegistersKeepTheirRanges :
    onPanel 0 63 = true ∧ onPanel 95 0 = true ∧
    LineRegs.setup LineRegs.reset 0 63 95 0 ∈ lineStates lineFuel (LineRegs.setup LineRegs.reset 0 63 95 0) := by
  decide +kernel

theorem witness_CharDrawsItsWholeCell :
    State.reset.halted = false ∧ 0 ≤ coord 0#16 ∧ coord 0#16 ≤ 56 ∧ coord 88#16 ≤ 88 ∧ 0 ≤ coord 56#16 ∧
    coord 56#16 ≤ 56 := by decide

theorem witness_SilentClipChangesNothing :
    State.reset.halted = false ∧
    ¬ (0 ≤ coord 89#16 ∧ coord 89#16 ≤ 88 ∧ 0 ≤ coord 56#16 ∧ coord 56#16 ≤ 56) ∧
    ¬ (0 ≤ coord 88#16 ∧ coord 88#16 ≤ 88 ∧ 0 ≤ coord 57#16 ∧ coord 57#16 ≤ 56) ∧
    ¬ (0 ≤ coord 0xFFFF#16 ∧ coord 0xFFFF#16 ≤ 88 ∧ 0 ≤ coord 0#16 ∧ coord 0#16 ≤ 56) := by decide

theorem witness_StringDrawsTheCharactersThatFit :
    State.reset.halted = false ∧ 0 ≤ coord 80#16 ∧ coord 80#16 ≤ 88 ∧ 0 ≤ coord 56#16 ∧ coord 56#16 ≤ 56 ∧
    coord 80#16 + 8 * (1 : Nat) ≤ 88 ∧ ¬ coord 80#16 + 8 * (2 : Nat) ≤ 88 := by decide

theorem witness_BlankGlyphFillsWithBackground :
    BlockInv (asked []) ∧ (asked []).halted = false ∧ cellFits (coord 88#16) (coord 56#16) = true ∧
    charToGlyphIndex 0x21#8 = 0 ∧ ∃ t, exec (.char 88#16 56#16 0x21#8 0xFFFF#16) (asked []) = .next t :=
  ⟨asked_inv _, rfl, by decide, by decide, _, rfl⟩

theorem witness_ReservedByteHaltsTheBlock :
    (asked [0x09#8, 0x01#8]).powerOnSignal = false ∧ (asked [0x09#8, 0x01#8]).halted = false ∧
    (asked [0x09#8, 0x01#8]).busy = false ∧ (asked [0x09#8, 0x01#8]).requests = 0x09#8 :: [0x01#8] ∧
    (0x09#8 = 0x00#8 ∨ 0x09 ≤ (0x09#8).toNat) := by decide

theorem witness_WireCommandsSendTheirBytes :
    (Instr.opScrollSetup 0#8 0#8 64#8 0#8 0#8).wire? = some (.scrollSetup, [0#8, 0#8, 64#8, 0#8, 0#8]) ∧
    ready7.halted = false ∧ txAllOk ready7 (1 + [0#8, 0#8, 64#8, 0#8, 0#8].length) ∧
    (Instr.opScrollOn []).wire? = some (.scrollOn, []) ∧ txAllOk ready7 (1 + ([] : List Byte).length) := by decide

theorem witness_WireCommandStopsAtAFailedByte :
    (Instr.opStartLine [0#8]).wire? = some (.startLine, [0#8]) ∧
    (ready [true, false]).halted = false ∧ (ready [true, false]).rstate = .ready ∧
    txFailsAt (ready [true, false]) 1 ∧
    1 < ((ready [true, false]).cfg.ops.byte .startLine :: [0#8]).length ∧ txFailsAt (ready [false]) 0 ∧
    { State.reset with txScript := [false] }.rstate ≠ .ready ∧
    txFailsAt { State.reset with txScript := [false] } 0 := by decide

theorem witness_PlotWritesOneWord :
    onPanel 0 0 = true ∧ onPanel 95 63 = true ∧ onPanel 96 0 = false ∧ onPanel 0 (-1) = false := by decide

theorem witness_FaultsAreTheAllowedOnes :
    State.reset.halted = false ∧ ∃ t, exec (.invert true) State.reset = .next t ∧ t.fault.kind = some .order :=
  ⟨rfl, _, rfl, rfl⟩

theorem witness_RequestsEndCompletedOrHalted :
    (Instr.char 0#16 0#16 0#8 0#16).wire? = none ∧ State.reset.halted = false ∧
    (∃ t, exec (.line 0#16 0#16 0#16 0#16 0#16) State.reset = .next t ∧ t.rqi = 1) ∧
    (∃ t, exec (.invert true) State.reset = .next t ∧ t.halted = true) :=
  ⟨rfl, rfl, ⟨_, rfl, by decide⟩, _, rfl, rfl⟩

theorem witness_AccessByRequest :
    (∃ t, exec (.render 0#8 0#8 0#8 0#8) State.reset = .next t) ∧ mayWriteFb (.render 0#8 0#8 0#8 0#8) = false ∧
    Instr.render 0#8 0#8 0#8 0#8 ≠ .reset ∧ leavesBus (.line 0#16 0#16 0#16 0#16 0#16) = true ∧
    (∃ t, exec (.line 0#16 0#16 0#16 0#16 0#16) State.reset = .next t) :=
  ⟨⟨_, rfl⟩, rfl, nofun, rfl, _, rfl⟩

theorem witness_TraceOnlyGrows : ∃ t, exec (.invert true) (ready [true]) = .next t := ⟨_, rfl⟩

theorem witness_LinesAndTraceAreNeverRead :
    (∃ t, exec (.invert true) (ready [true]) = .next t) ∧
    ∃ t, exec (.invert true) { ready [true] with cs := .asserted, dc := .command, res := .asserted, trace := [.delay 1] } =
      .next t := ⟨⟨_, rfl⟩, _, rfl⟩

theorem witness_EngineRegistersAreNeverReadFirst :
    (∃ t, exec (.char 0#16 0#16 0x41#8 0#16) State.reset = .next t) ∧
    ∃ t, exec (.char 0#16 0#16 0x41#8 0#16)
      { State.reset with line := { LineRegs.reset with e2 := 5 }, blit := { BlitRegs.reset with g := 7 },
                         streamer := { StreamRegs.reset with row := 3 }, pending := [0x15#8] } = .next t :=
  ⟨⟨_, rfl⟩, _, rfl⟩

theorem witness_EventCounts :
    (ready7.halted = false ∧ ∃ t, exec (.invert true) ready7 = .next t ∧ t.halted = false) ∧
    (∃ t, exec (.scroll 0#8 0#8 0#8 true) ready7 = .next t ∧ t.halted = false) ∧
    (∃ t, exec (.render 0#8 0#8 0#8 0#8) ready7 = .next t ∧ t.halted = false) ∧
    (resetting.halted = false ∧ ∃ t, exec .reset resetting = .next t ∧ t.halted = false) :=
  ⟨⟨rfl, _, rfl, by decide⟩, ⟨_, rfl, by decide⟩, ⟨_, rfl, by decide⟩, rfl, _, rfl, by decide +kernel⟩

theorem witness_StraightLinesPlotTheSameBothWays :
    onPanel 0 0 = true ∧ onPanel 95 0 = true ∧ onPanel 0 63 = true ∧ onPanel 63 63 = true ∧
    (63 - 0 : Int).natAbs = (63 - 0 : Int).natAbs := by decide

end Sys2Proof.Tests
end

section
/-! SUPPORT. The line engine never leaves the panel (44_line_engine.md R182, R184): how far it has come along each axis
decides its error term, so a step that passes a test has a column or a row left to go. -/

namespace Sys2Proof.Machine

/-- The line engine under way from (x0, y0) to (x1, y1) after `a` column steps and `b` row steps (44 R181, R182): no
axis has passed its end, and the error term is a function of the two counts. -/
structure LineRegs.OnCourse (x0 y0 x1 y1 a b : Int) (r : LineRegs) : Prop where
  x : r.x = x0 + (x1 - x0).sign * a
  y : r.y = y0 + (y1 - y0).sign * b
  endX : r.x1 = x1
  endY : r.y1 = y1
  dx : r.dx = |x1 - x0|
  dy : r.dy = -|y1 - y0|
  sx : r.sx = (x1 - x0).sign
  sy : r.sy = (y1 - y0).sign
  err : r.err = (b + 1) * |x1 - x0| - (a + 1) * |y1 - y0|
  a_nonneg : 0 ≤ a
  a_le : a ≤ |x1 - x0|
  b_nonneg : 0 ≤ b
  b_le : b ≤ |y1 - y0|

theorem onCourse_setup (old : LineRegs) (x0 y0 x1 y1 : Int) :
    LineRegs.OnCourse x0 y0 x1 y1 0 0 (LineRegs.setup old x0 y0 x1 y1) := by
  constructor <;> simp [LineRegs.setup, sub_eq_add_neg]

/-- A step's test along an axis of `d` places, `a` of them done, passes only where one is left, unless the engine is
at its end; `e` and `b` are those of the other axis. -/
theorem lt_of_stepTest {a b d e : Int} (ha : a ≤ d) (hb : b ≤ e) (hd : 0 ≤ d) (hb0 : 0 ≤ b)
    (hne : ¬ (a = d ∧ b = e)) (ht : -e ≤ 2 * ((b + 1) * d - (a + 1) * e)) : a < d := by
  refine lt_of_le_of_ne ha fun had => ?_
  subst had
  have hlt : b < e := lt_of_le_of_ne hb fun h => hne ⟨rfl, h⟩
  have hmul : (b + 1) * a ≤ e * a := mul_le_mul_of_nonneg_right hlt hd
  linarith [mul_comm a e]

variable {x0 y0 x1 y1 a b : Int} {r : LineRegs}

theorem atEnd_of_onCourse (h : r.OnCourse x0 y0 x1 y1 a b) (he : a = |x1 - x0| ∧ b = |y1 - y0|) :
    r.atEnd = true := by
  simp [LineRegs.atEnd, h.x, h.y, h.endX, h.endY, he, Int.sign_mul_abs]

theorem onCourse_stepX (h : r.OnCourse x0 y0 x1 y1 a b) (ha : r.dy ≤ r.e2 → a < |x1 - x0|) :
    ∃ a', r.stepX.OnCourse x0 y0 x1 y1 a' b := by
  by_cases ht : r.dy ≤ r.e2
  · rw [LineRegs.stepX, if_pos ht]
    exact ⟨a + 1, { h with
      x := by simp only [h.x, h.sx]; ring
      err := by simp only [h.err, h.dy]; ring
      a_nonneg := by have := h.a_nonneg; omega
      a_le := ha ht }⟩
  · rw [LineRegs.stepX, if_neg ht]
    exact ⟨a, h⟩

theorem onCourse_stepY (h : r.OnCourse x0 y0 x1 y1 a b) (hb : r.e2 ≤ r.dx → b < |y1 - y0|) :
    ∃ b', r.stepY.OnCourse x0 y0 x1 y1 a b' := by
  by_cases ht : r.e2 ≤ r.dx
  · rw [LineRegs.stepY, if_pos ht]
    exact ⟨b + 1, { h with
      y := by simp only [h.y, h.sy]; ring
      err := by simp only [h.err, h.dx]; ring
      b_nonneg := by have := h.b_nonneg; omega
      b_le := hb ht }⟩
  · rw [LineRegs.stepY, if_neg ht]
    exact ⟨b, h⟩

@[simp] theorem stepX_e2 (r : LineRegs) : r.stepX.e2 = r.e2 := by unfold LineRegs.stepX; split <;> rfl

/-- A step from a point that is not the end stays on course (44 R182). -/
theorem onCourse_step (h : r.OnCourse x0 y0 x1 y1 a b) (hne : r.atEnd = false) :
    ∃ a' b', r.step.OnCourse x0 y0 x1 y1 a' b' := by
  have hn : ¬ (a = |x1 - x0| ∧ b = |y1 - y0|) := fun e => by simp [atEnd_of_onCourse h e] at hne
  have h' : LineRegs.OnCourse x0 y0 x1 y1 a b { r with e2 := 2 * r.err } := { h with }
  obtain ⟨a', hX⟩ := onCourse_stepX h' fun ht => lt_of_stepTest h.a_le h.b_le (abs_nonneg _) h.b_nonneg hn
    (by simpa only [h.dy, h.err] using ht)
  obtain ⟨b', hY⟩ := onCourse_stepY hX fun ht => lt_of_stepTest h.b_le h.a_le (abs_nonneg _) h.a_nonneg
    (fun e => hn e.symm) (by rw [stepX_e2, hX.dx] at ht; simp only [h.err] at ht; linarith)
  exact ⟨a', b', hY⟩

/-- What is reached from `u` towards `v` lies between them. -/
theorem between_of_sign {u v c lo hi : Int} (hc : 0 ≤ c) (hcd : c ≤ |v - u|) (hu : lo ≤ u ∧ u ≤ hi)
    (hv : lo ≤ v ∧ v ≤ hi) : lo ≤ u + (v - u).sign * c ∧ u + (v - u).sign * c ≤ hi := by
  rcases lt_trichotomy (v - u) 0 with h | h | h
  · rw [Int.sign_eq_neg_one_of_neg h, abs_of_neg h] at *; omega
  · simp [h, hu]
  · rw [Int.sign_eq_one_of_pos h, abs_of_pos h] at *; omega

theorem onPanel_of_onCourse (h : r.OnCourse x0 y0 x1 y1 a b) (h0 : onPanel x0 y0 = true)
    (h1 : onPanel x1 y1 = true) : onPanel r.x r.y = true := by
  obtain ⟨hx0, hx0', hy0, hy0'⟩ := onPanel_iff.mp h0
  obtain ⟨hx1, hx1', hy1, hy1'⟩ := onPanel_iff.mp h1
  rw [onPanel_iff, h.x, h.y, ← and_assoc]
  exact ⟨between_of_sign h.a_nonneg h.a_le ⟨hx0, hx0'⟩ ⟨hx1, hx1'⟩,
    between_of_sign h.b_nonneg h.b_le ⟨hy0, hy0'⟩ ⟨hy1, hy1'⟩⟩

theorem points_onPanel (n : Nat) (h : r.OnCourse x0 y0 x1 y1 a b) (h0 : onPanel x0 y0 = true)
    (h1 : onPanel x1 y1 = true) : ∀ p ∈ LineRegs.points n r, onPanel p.1 p.2 = true := by
  induction n generalizing a b r with
  | zero => simp [LineRegs.points]
  | succ n ih =>
    rw [LineRegs.points, List.forall_mem_cons]
    refine ⟨onPanel_of_onCourse h h0 h1, ?_⟩
    cases he : r.atEnd with
    | true => simp
    | false =>
      obtain ⟨a', b', h'⟩ := onCourse_step h he
      simpa using ih h'

/-- A LINE between two points of the panel plots on the panel only (44 R184). -/
theorem linePoints_onPanel (h0 : onPanel x0 y0 = true) (h1 : onPanel x1 y1 = true) :
    ∀ p ∈ linePoints x0 y0 x1 y1, onPanel p.1 p.2 = true :=
  points_onPanel lineFuel (onCourse_setup _ x0 y0 x1 y1) h0 h1

/-- LINE between two points of the panel writes exactly its points, whatever its registers held before (44 R180). -/
theorem lineBody_eq (c : Color) {s : State} (hl : s.halted = false) (h0 : onPanel x0 y0 = true)
    (h1 : onPanel x1 y1 = true) :
    ∃ q, lineBody x0 y0 x1 y1 c s = setLine q (writeAll (pointWrites c (linePoints x0 y0 x1 y1)) s) := by
  have hp : LineRegs.points lineFuel (setLine (LineRegs.setup s.line x0 y0 x1 y1) s).line = linePoints x0 y0 x1 y1 :=
    points_setup s.line x0 y0 x1 y1
  rw [lineBody, h0, h1, Bool.and_self, if_pos rfl, lineLoop_eq c lineFuel (by simpa using hl)
    (hp ▸ linePoints_onPanel h0 h1), hp, writeAll_setLine]
  exact ⟨_, rfl⟩

/-- LINE with an end point off the panel raises before its first pixel (44 R180). -/
theorem lineBody_off (c : Color) (s : State) (h : (onPanel x0 y0 && onPanel x1 y1) = false) :
    lineBody x0 y0 x1 y1 c s = raise .coord s := by simp [lineBody, h]

end Sys2Proof.Machine
end

section
/-! SUPPORT. What an instruction does, as data: every instruction, from every state, has an effect that depends only on
what the instruction reads, and neither the output lines, TRACE, the engine registers nor the bytes left to send are
read (10_state.md R24, R30 to R33, R37). -/

namespace Sys2Proof.Machine

open Sys2Proof.Safety

/-- The part of the state no instruction reads before it writes it. -/
structure Unread where
  lines : Lines
  trace : List Event
  line : LineRegs
  blit : BlitRegs
  streamer : StreamRegs
  pending : List Byte

/-- The state with another unread part. -/
def State.overlay (s : State) (u : Unread) : State :=
  { s with
    cs := u.lines.cs, dc := u.lines.dc, res := u.lines.res, trace := u.trace
    line := u.line, blit := u.blit, streamer := u.streamer, pending := u.pending }

/-- The unread part of a state: `s.overlay s.unread` is `s` by definition. -/
def State.unread (s : State) : Unread :=
  { lines := linesOf s, trace := s.trace, line := s.line, blit := s.blit, streamer := s.streamer, pending := s.pending }

/-- How an instruction ends. -/
inductive Ending where
  /-- The request completes (10 R26, R28). -/
  | completes
  /-- The request, if one runs, goes on: a panel command has been sent, or a halted block has done nothing. -/
  | goesOn
  /-- The instruction raises (60 R266). -/
  | faults (k : FaultKind)

/-- What an instruction does, but for the engine registers: the framebuffer and RSTATE it leaves, the events it
appends, the transfers it uses and its ending. -/
structure Effect where
  fb : Memory
  rstate : RState
  events : List Event
  transfers : Nat
  ending : Ending

/-- An effect that touches the bus only. -/
def State.busEffect (s : State) (es : List Event) (n : Nat) (d : Ending) : Effect :=
  { fb := s.fb, rstate := s.rstate, events := es, transfers := n, ending := d }

/-- The state an effect leaves before its ending. -/
def Effect.moved (e : Effect) (s : State) : State :=
  { s with
    fb := e.fb, rstate := e.rstate
    cs := ((linesOf s).afterAll e.events).cs
    dc := ((linesOf s).afterAll e.events).dc
    res := ((linesOf s).afterAll e.events).res
    trace := s.trace ++ e.events
    txScript := s.txScript.drop e.transfers
    txCount := s.txCount + e.transfers }

@[simp] theorem moved_halted (e : Effect) (s : State) : (e.moved s).halted = s.halted := rfl

/-- The state an effect leaves. -/
def Effect.result (e : Effect) (s : State) : State :=
  match e.ending with
  | .completes => complete (e.moved s)
  | .goesOn => e.moved s
  | .faults k => raise k (e.moved s)

/-- A request's body has an effect, up to the engine registers, which the request releases at its end. -/
def Yields (body : State → State) (e : Effect) (s : State) : Prop :=
  (e.ending = .completes ∧ (body s).halted = false ∧ release (body s) = release (e.moved s)) ∨
  ∃ k, e.ending = .faults k ∧ body s = raise k (e.moved s)

theorem complete_congr {s t : State} (h : release s = release t) : complete s = complete t :=
  congrArg (fun u : State => { u with rqi := u.rqi + 1 }) h

/-- A request does what its body does, and ends. -/
theorem request_of_yields {body : State → State} {e : Effect} {s : State} (hl : s.halted = false)
    (h : Yields body e (start s)) : request body s = e.result s := by
  rcases h with ⟨hd, hb, hr⟩ | ⟨k, hd, hb⟩
  · rw [request_completes hl hb, complete_congr hr, Effect.result, hd]; rfl
  · rw [request_faults hl (by rw [hb, raise_halted]), hb, Effect.result, hd]; rfl

/-! The channel's outcomes as effects -/

theorem moved_quiet (s : State) (d : Ending) : (s.busEffect [] 0 d).moved s = s := by
  simp [State.busEffect, Effect.moved, Lines.afterAll, linesOf]

theorem afterSequence_eq_moved (bs : List Byte) (s : State) (d : Ending) :
    afterSequence s.pending bs s = (s.busEffect (sequenceEvents bs) bs.length d).moved s := by
  by_cases h : bs = []
  · subst h; rw [afterSequence_nil]; exact (moved_quiet s d).symm
  · simp [afterSequence, State.busEffect, Effect.moved, afterAll_sequenceEvents, linesOf, h]

theorem sequenceFailure_eq_moved (k : FaultKind) (bs : List Byte) (j : Nat) (hj : j < bs.length) (s : State) :
    sequenceFailure k bs j hj s = raise k
      ((s.busEffect (sequenceEvents (bs.take j) ++ failedCommandEvents bs[j]) (j + 1) (.faults k)).moved s) := by
  have hl : ∀ l : Lines, l.afterAll (sequenceEvents (bs.take j) ++ failedCommandEvents bs[j]) =
      { l with cs := .asserted, dc := .command } := fun l => by
    rw [afterAll_append, afterAll_sequenceEvents]; split <;> rfl
  simp [sequenceFailure, State.busEffect, Effect.moved, hl, linesOf]

/-! The bodies of the bus-using requests as effects, the same whatever the unread part holds -/

@[simp] theorem overlay_fb (s : State) (u : Unread) : (s.overlay u).fb = s.fb := rfl
@[simp] theorem overlay_rstate (s : State) (u : Unread) : (s.overlay u).rstate = s.rstate := rfl
@[simp] theorem overlay_cfg (s : State) (u : Unread) : (s.overlay u).cfg = s.cfg := rfl
@[simp] theorem overlay_halted (s : State) (u : Unread) : (s.overlay u).halted = s.halted := rfl
@[simp] theorem overlay_regionBytes (s : State) (u : Unread) (a : RenderArea) :
    (s.overlay u).regionBytes a = s.regionBytes a := rfl

/-- The body has one effect, on the bus alone, whatever the unread part of the state holds. -/
def BusBody (body : State → State) (s : State) : Prop :=
  ∃ es n d, ∀ u, Yields body (s.busEffect es n d) (s.overlay u)

theorem moved_overlay_quiet (s : State) (u : Unread) (d : Ending) :
    (s.busEffect [] 0 d).moved (s.overlay u) = s.overlay u := moved_quiet (s.overlay u) d

theorem yields_raise {k : FaultKind} {body : State → State} {s : State} {u : Unread}
    (h : body (s.overlay u) = raise k (s.overlay u)) : Yields body (s.busEffect [] 0 (.faults k)) (s.overlay u) :=
  .inr ⟨k, rfl, by rw [h, moved_overlay_quiet]⟩

theorem busBody_raise {k : FaultKind} {body : State → State} {s : State}
    (h : ∀ u, body (s.overlay u) = raise k (s.overlay u)) : BusBody body s :=
  ⟨[], 0, .faults k, fun u => yields_raise (h u)⟩

theorem busBody_requireReady {body : State → State} {s : State} (h : BusBody body s) :
    BusBody (requireReady body) s := by
  by_cases hr : s.rstate = .ready
  · obtain ⟨es, n, d, h⟩ := h
    exact ⟨es, n, d, fun u => by simpa only [Yields, requireReady_ready (s := s.overlay u) hr] using h u⟩
  · exact busBody_raise fun u => requireReady_early hr

/-- A command sequence goes on at its end, or raises at the first byte that fails (41 R131). -/
theorem sendSequence_effect (k : FaultKind) (bs : List Byte) {s : State} (hl : s.halted = false) :
    ∃ es n d, (d = .goesOn ∨ d = .faults k) ∧
      ∀ u, sendSequence k bs (s.overlay u) = (s.busEffect es n d).result (s.overlay u) := by
  rcases txAllOk_or_fails s bs.length with h | ⟨j, hj, h⟩
  · exact ⟨sequenceEvents bs, bs.length, .goesOn, .inl rfl, fun u =>
      (sendSequence_ok k bs (s := s.overlay u) hl h).trans (afterSequence_eq_moved bs _ _)⟩
  · exact ⟨sequenceEvents (bs.take j) ++ failedCommandEvents bs[j], j + 1, .faults k, .inr rfl, fun u =>
      (sendSequence_fail k bs j (s := s.overlay u) hj hl h).trans (sequenceFailure_eq_moved k bs j hj _)⟩

theorem busBody_sendSequence (k : FaultKind) (bs : List Byte) {s : State} (hl : s.halted = false) :
    BusBody (sendSequence k bs) s := by
  obtain ⟨es, n, d, rfl | rfl, h⟩ := sendSequence_effect k bs hl
  · exact ⟨es, n, .completes, fun u => .inl ⟨rfl, by rw [h u]; exact hl, congrArg release (h u)⟩⟩
  · exact ⟨es, n, .faults k, fun u => .inr ⟨k, rfl, h u⟩⟩

/-- The lines after a command sequence and a pixel burst, ok or failed. -/
theorem afterAll_burst (l : Lines) (ws bs : List Byte) :
    l.afterAll (sequenceEvents ws ++ burstEvents bs) = { l with cs := .deasserted, dc := .data } ∧
    l.afterAll (sequenceEvents ws ++ failedBurstEvents bs) = { l with cs := .asserted, dc := .data } := by
  rw [afterAll_append, afterAll_append, afterAll_sequenceEvents]
  constructor <;> split <;> rfl

theorem busBody_renderRegion (a : RenderArea) {s : State} (hl : s.halted = false) :
    BusBody (renderRegion a) s := by
  cases ha : a.valid with
  | false => exact busBody_raise fun u => renderRegion_invalid ha (s.overlay u)
  | true =>
    rcases txAllOk_or_fails s 7 with h | ⟨j, hj, h⟩
    · refine ⟨sequenceEvents (addressWindow s.cfg.ops a) ++ burstEvents (s.regionBytes a), 7, .completes,
        fun u => .inl ⟨rfl, ?_⟩⟩
      rw [renderRegion_ok (s := s.overlay u) ha hl h]
      refine ⟨hl, ?_⟩
      simp [afterBurst, endCounters, afterSequence, latchArea, Effect.moved, State.busEffect, afterAll_burst, release,
        linesOf, addressWindow]
    · rcases Nat.lt_succ_iff_lt_or_eq.mp hj with hj | rfl
      · refine ⟨sequenceEvents ((addressWindow s.cfg.ops a).take j) ++
          failedCommandEvents (addressWindow s.cfg.ops a)[j], j + 1, .faults .command,
          fun u => .inr ⟨.command, rfl, ?_⟩⟩
        rw [renderRegion_commandFail (s := s.overlay u) j ha hj hl h]
        exact sequenceFailure_eq_moved .command (addressWindow s.cfg.ops a) j hj (s.overlay u)
      · refine ⟨sequenceEvents (addressWindow s.cfg.ops a) ++ failedBurstEvents (s.regionBytes a), 7, .faults .burst,
          fun u => .inr ⟨.burst, rfl, ?_⟩⟩
        rw [renderRegion_burstFail (s := s.overlay u) ha hl h]
        simp [burstFailure, endCounters, afterSequence, latchArea, Effect.moved, State.busEffect, afterAll_burst,
          raise, release, linesOf]

theorem busBody_render (a : RenderArea) {s : State} (hl : s.halted = false) : BusBody (renderBody a) s :=
  busBody_requireReady (busBody_renderRegion a hl)

/-- SCROLL sends one sequence, the setup and the switch (46 R233). -/
theorem busBody_scroll (h v interval : Byte) (enable : Bool) {s : State} (hl : s.halted = false) :
    BusBody (scrollBody h v interval enable) s := by
  refine busBody_requireReady ?_
  obtain ⟨es, n, d, hs⟩ := busBody_sendSequence .command
    (scrollSetupBytes s.cfg h v interval ++ [scrollSwitch s.cfg enable]) hl
  refine ⟨es, n, d, fun u => ?_⟩
  simpa only [Yields, overlay_cfg, sendSequence_snoc (s := s.overlay u) _ _ _ hl] using hs u

/-- One command byte is a sequence of one. -/
theorem sendSequence_singleton (k : FaultKind) (b : Byte) {s : State} (hl : s.halted = false) :
    sendSequence k [b] s = sendCommand k b s := by
  simpa [sendSequence, sendFrom, andThen_live hl] using (sendSequence_snoc k [] b hl).symm

theorem busBody_invert (on : Bool) {s : State} (hl : s.halted = false) : BusBody (invertBody on) s := by
  refine busBody_requireReady ?_
  obtain ⟨es, n, d, hs⟩ := busBody_sendSequence .command [invertByte s.cfg on] hl
  refine ⟨es, n, d, fun u => ?_⟩
  simpa only [Yields, overlay_cfg, sendSequence_singleton (s := s.overlay u) _ _ hl] using hs u

/-! The bodies that write the framebuffer or RSTATE -/

/-- CLEAR's fill comes first, and what follows reads the filled framebuffer (46 R230). -/
theorem clear_effect (color : Color) {s : State} (hl : s.halted = false) :
    ∃ e : Effect, e.rstate = s.rstate ∧ ∀ u, Yields (clearBody color) e (s.overlay u) := by
  by_cases hr : s.rstate = .ready
  · obtain ⟨es, n, d, h⟩ := busBody_renderRegion fullFrame (s := fillAll color s) hl
    refine ⟨(fillAll color s).busEffect es n d, rfl, fun u => ?_⟩
    rw [Yields, clearBody, requireReady_ready (s := s.overlay u) hr]
    exact h u
  · exact ⟨s.busEffect [] 0 (.faults .order), rfl, fun u => yields_raise (requireReady_early hr)⟩

/-- The effect of a reset pulse and then bus events `es`. -/
def State.resetEffect (s : State) (r : RState) (es : List Event) (n : Nat) (d : Ending) : Effect :=
  { fb := s.fb, rstate := r, events := pulseEvents ++ es, transfers := n, ending := d }

theorem moved_resetPulse (s : State) (es : List Event) (n : Nat) (d : Ending) :
    ((resetPulse s).busEffect es n d).moved (resetPulse s) =
      (s.resetEffect .resetReleasedSettling es n d).moved s := by
  have hp (l : Lines) : l.afterAll (pulseEvents ++ es) =
      Lines.afterAll { l with cs := .deasserted, res := .deasserted } es := afterAll_append _ _ _
  simp [resetPulse_eq, Effect.moved, State.busEffect, State.resetEffect, hp, linesOf]

/-- RESET's effect: the pulse, the program, and Ready unless a byte fails (42 R150, R154, R157). -/
theorem reset_effect {s : State} (hl : s.halted = false) :
    ∃ e : Effect, e.fb = s.fb ∧ ∀ u, Yields resetBody e (s.overlay u) := by
  rcases txAllOk_or_fails s s.cfg.initProg.length with h | ⟨j, hj, h⟩
  · refine ⟨s.resetEffect .ready (sequenceEvents s.cfg.initProg) s.cfg.initProg.length .completes, rfl,
      fun u => .inl ⟨rfl, ?_⟩⟩
    rw [resetBody_ok (s := s.overlay u) hl h, ← resetPulse_pending, afterSequence_eq_moved _ _ .completes,
      moved_resetPulse]
    exact ⟨hl, rfl⟩
  · refine ⟨s.resetEffect .resetReleasedSettling (sequenceEvents (s.cfg.initProg.take j) ++
      failedCommandEvents s.cfg.initProg[j]) (j + 1) (.faults .init), rfl, fun u => .inr ⟨.init, rfl, ?_⟩⟩
    exact (resetBody_fail (s := s.overlay u) j hj hl h).trans ((sequenceFailure_eq_moved _ _ j hj _).trans
      (congrArg (raise .init) (moved_resetPulse (s.overlay u) _ _ _)))

/-! The drawing requests -/

@[simp] theorem overlay_font (s : State) (u : Unread) : (s.overlay u).font = s.font := rfl
@[simp] theorem release_setBlit (b : BlitRegs) (s : State) : release (setBlit b s) = release s := rfl
@[simp] theorem release_setLine (q : LineRegs) (s : State) : release (setLine q s) = release s := rfl

/-- The effect of word writes alone. -/
def State.writeEffect (s : State) (ws : List (Nat × Color)) : Effect :=
  { s.busEffect [] 0 .completes with fb := (writeAll ws s).fb }

theorem moved_writeEffect (s : State) (u : Unread) (ws : List (Nat × Color)) :
    (s.writeEffect ws).moved (s.overlay u) = writeAll ws (s.overlay u) := by
  rw [writeAll_eq ws (s.overlay u), writeAll_fb_congr ws (show (s.overlay u).fb = s.fb from rfl)]
  simp [State.writeEffect, State.busEffect, Effect.moved, Lines.afterAll, linesOf]

/-- The body draws: it writes the same words whatever the unread part of the state holds, or raises. -/
def DrawBody (body : State → State) (s : State) : Prop :=
  ∃ e : Effect, e.rstate = s.rstate ∧ e.events = [] ∧ ∀ u, Yields body e (s.overlay u)

theorem drawBody_of_writes {body : State → State} {s : State} (hl : s.halted = false) (ws : List (Nat × Color))
    (h : ∀ u, release (body (s.overlay u)) = release (writeAll ws (s.overlay u))) : DrawBody body s := by
  refine ⟨s.writeEffect ws, rfl, rfl, fun u => .inl ⟨rfl, ?_, ?_⟩⟩
  · rw [← release_halted, h]
    simpa using hl
  · rw [moved_writeEffect, h]

theorem drawBody_line (x0 y0 x1 y1 : Int) (color : Color) {s : State} (hl : s.halted = false) :
    DrawBody (lineBody x0 y0 x1 y1 color) s := by
  cases h : onPanel x0 y0 && onPanel x1 y1 with
  | true =>
    obtain ⟨h0, h1⟩ := Bool.and_eq_true_iff.mp h
    refine drawBody_of_writes hl (pointWrites color (linePoints x0 y0 x1 y1)) fun u => ?_
    obtain ⟨q, e⟩ := lineBody_eq color (s := s.overlay u) hl h0 h1
    rw [e, release_setLine]
  | false =>
    exact ⟨s.busEffect [] 0 (.faults .coord), rfl, rfl, fun u => yields_raise (lineBody_off color _ h)⟩

theorem drawBody_char (x y : Int) (ch : Byte) (color : Color) {s : State} (hl : s.halted = false) :
    DrawBody (charBody x y ch color) s := by
  cases hf : cellFits x y with
  | true =>
    refine drawBody_of_writes hl (s.font.cell x y (charToGlyphIndex ch) color cellPositions) fun u => ?_
    obtain ⟨b, -, -, e⟩ := charBlit_eq x y ch color (s := s.overlay u) hl hf
    rw [charBody, e, release_setBlit, overlay_font]
  | false => exact drawBody_of_writes hl [] fun u => by rw [charBody, charBlit_clip _ _ _ _ _ hf, writeAll_nil]

theorem drawBody_string (x y : Int) (color : Color) (text : List Byte) {s : State} (hl : s.halted = false) :
    DrawBody (stringBody x y color text) s := by
  cases hf : cellFits x y with
  | true =>
    refine drawBody_of_writes hl (s.font.text y color x text) fun u => ?_
    have ho : setOrigin 0 x (s.overlay u) = setBlit { u.blit with k := 0, cx := x } (s.overlay u) := rfl
    obtain ⟨b, e⟩ := stringLoop_eq y color text (s := setBlit { u.blit with k := 0, cx := x } (s.overlay u)) hl
    rw [stringBody, if_pos hf, ho, e, writeAll_setBlit, setBlit_setBlit, release_setBlit, setBlit_font, overlay_font]
    rfl
  | false => exact drawBody_of_writes hl [] fun u => by simp [stringBody, hf]

/-! Every instruction -/

/-- The instruction may have the effect: it writes what 10 R37 lets it write, and a request of a live block ends. -/
structure Effect.Permitted (e : Effect) (i : Instr) (s : State) : Prop where
  fb : mayWriteFb i = false → e.fb = s.fb
  rstate : i ≠ .reset → e.rstate = s.rstate
  events : leavesBus i = true → e.events = []
  ends : i.wire? = none → s.halted = false → e.ending ≠ .goesOn

/-- The instruction has one permitted effect, whatever the unread part of the state holds. -/
def HasEffect (i : Instr) (s : State) : Prop :=
  ∃ e : Effect, e.Permitted i s ∧ ∀ u, exec i (s.overlay u) = .next (e.result (s.overlay u))

/-- A request has the effect of its body. -/
theorem hasEffect_of_yields {i : Instr} {body : State → State} {e : Effect} {s : State} (hl : s.halted = false)
    (hi : ∀ t, exec i t = .next (request body t)) (h : ∀ u, Yields body e ((start s).overlay u))
    (hf : mayWriteFb i = false → e.fb = s.fb) (hr : i ≠ .reset → e.rstate = s.rstate)
    (he : leavesBus i = true → e.events = []) : HasEffect i s := by
  refine ⟨e, ⟨hf, hr, he, fun _ _ hd => ?_⟩, fun u => ?_⟩
  · rcases h s.unread with ⟨hc, -⟩ | ⟨k, hk, -⟩
    · simp [hc] at hd
    · simp [hk] at hd
  · rw [hi, request_of_yields (s := s.overlay u) hl (h u)]

theorem hasEffect_of_busBody {i : Instr} {body : State → State} {s : State} (hl : s.halted = false)
    (hi : ∀ t, exec i t = .next (request body t)) (hb : leavesBus i = false) (h : BusBody body (start s)) :
    HasEffect i s := by
  obtain ⟨es, n, d, h⟩ := h
  exact hasEffect_of_yields hl hi h (fun _ => rfl) (fun _ => rfl) fun he => by simp [hb] at he

theorem hasEffect_of_drawBody {i : Instr} {body : State → State} {s : State} (hl : s.halted = false)
    (hi : ∀ t, exec i t = .next (request body t)) (hf : mayWriteFb i = true) (h : DrawBody body (start s)) :
    HasEffect i s := by
  obtain ⟨e, hr, he, h⟩ := h
  exact hasEffect_of_yields hl hi h (fun hf' => by simp [hf] at hf') (fun _ => hr) fun _ => he

theorem hasEffect_clear {i : Instr} {color : Color} {s : State} (hl : s.halted = false)
    (hi : ∀ t, exec i t = .next (request (clearBody color) t)) (hf : mayWriteFb i = true)
    (hb : leavesBus i = false) : HasEffect i s := by
  obtain ⟨e, hr, h⟩ := clear_effect color (s := start s) hl
  exact hasEffect_of_yields hl hi h (fun hf' => by simp [hf] at hf') (fun _ => hr) fun he => by simp [hb] at he

theorem hasEffect_reset {s : State} (hl : s.halted = false) : HasEffect .reset s := by
  obtain ⟨e, hf, h⟩ := reset_effect (s := start s) hl
  exact hasEffect_of_yields hl (fun _ => rfl) h (fun _ => hf) (fun hr => absurd rfl hr) nofun

theorem hasEffect_reserved (b0 : Byte) {s : State} (hl : s.halted = false) : HasEffect (.reserved b0) s := by
  refine ⟨s.busEffect [] 0 (.faults .opcode), ⟨fun _ => rfl, fun _ => rfl, fun _ => rfl, nofun⟩, fun u => ?_⟩
  have hr : raise .opcode (s.overlay u) = (s.busEffect [] 0 (.faults .opcode)).result (s.overlay u) :=
    congrArg (raise .opcode) (moved_overlay_quiet s u _).symm
  rw [← hr, exec, execReserved, if_neg (by simp [hl])]

/-- A panel command has the effect of its bytes (30 R98). -/
theorem hasEffect_wire {i : Instr} {o : WireOp} {ps : List Byte} {s : State} (hl : s.halted = false)
    (hw : i.wire? = some (o, ps)) : HasEffect i s := by
  obtain ⟨es, n, d, -, h⟩ := sendSequence_effect (wireFault s) (WireOp.bytes s.cfg.ops o ps) hl
  have hb : leavesBus i = true → i.wire? = none := by cases i <;> simp [leavesBus, Instr.wire?]
  refine ⟨s.busEffect es n d, ⟨fun _ => rfl, fun _ => rfl, fun he => ?_, fun hn => ?_⟩, fun u => ?_⟩
  · simp [hb he] at hw
  · simp [hn] at hw
  · rw [exec_of_wire hw, wireCommand, if_neg (by simp [hl])]
    exact congrArg Host.Outcome.next (h u)

/-- A halted block does nothing (60 R266). -/
theorem exec_halted (i : Instr) {s : State} (h : s.halted = true) : exec i s = .next s := by
  cases hw : i.wire? with
  | some w => rw [exec_of_wire (o := w.1) (ps := w.2) hw, wireCommand, if_pos h]
  | none =>
    cases i with
    | reserved b0 => simp [exec, execReserved, h]
    | reset | clear | render | line | char | string | scroll | invert | renderAll | clearRgb =>
      exact congrArg Host.Outcome.next (request_halted h)
    | _ => simp [Instr.wire?] at hw

/-- Every instruction has one permitted effect, whatever the unread part of the state holds. -/
theorem exec_hasEffect (i : Instr) (s : State) : HasEffect i s := by
  cases hl : s.halted with
  | true =>
    refine ⟨s.busEffect [] 0 .goesOn, ⟨fun _ => rfl, fun _ => rfl, fun _ => rfl, fun _ h => by simp [hl] at h⟩,
      fun u => ?_⟩
    rw [exec_halted i (s := s.overlay u) hl]
    exact congrArg Host.Outcome.next (moved_overlay_quiet s u _).symm
  | false =>
    cases hw : i.wire? with
    | some w => exact hasEffect_wire hl (o := w.1) (ps := w.2) hw
    | none =>
      cases i with
      | reset => exact hasEffect_reset hl
      | clear color => exact hasEffect_clear (color := color) hl (fun _ => rfl) rfl rfl
      | clearRgb r g b => exact hasEffect_clear (color := rgb565 r g b) hl (fun _ => rfl) rfl rfl
      | render c0 c1 r0 r1 => exact hasEffect_of_busBody hl (fun _ => rfl) rfl (busBody_render ⟨c0, c1, r0, r1⟩ hl)
      | renderAll => exact hasEffect_of_busBody hl (fun _ => rfl) rfl (busBody_render fullFrame hl)
      | scroll h v n e => exact hasEffect_of_busBody hl (fun _ => rfl) rfl (busBody_scroll h v n e hl)
      | invert on => exact hasEffect_of_busBody hl (fun _ => rfl) rfl (busBody_invert on hl)
      | line x0 y0 x1 y1 color => exact hasEffect_of_drawBody hl (fun _ => rfl) rfl (drawBody_line _ _ _ _ color hl)
      | char x y ch color => exact hasEffect_of_drawBody hl (fun _ => rfl) rfl (drawBody_char _ _ ch color hl)
      | string x y color text => exact hasEffect_of_drawBody hl (fun _ => rfl) rfl (drawBody_string _ _ color text hl)
      | reserved b0 => exact hasEffect_reserved b0 hl
      | _ => simp [Instr.wire?] at hw

@[simp] theorem result_trace (e : Effect) (s : State) : (e.result s).trace = s.trace ++ e.events := by
  unfold Effect.result; split <;> rfl

/-- An effect leaves FB, RSTATE and the lines as it moves them, whatever its ending, and has no part in the rest. -/
theorem result_frame (e : Effect) (s : State) :
    (e.result s).fb = e.fb ∧ (e.result s).rstate = e.rstate ∧
    linesOf (e.result s) = (linesOf s).afterAll e.events ∧ (e.result s).glyphRom = s.glyphRom ∧
    (e.result s).cfg = s.cfg ∧ (e.result s).requests = s.requests ∧ (e.result s).boots = s.boots ∧
    (e.result s).powerOnSignal = s.powerOnSignal := by
  unfold Effect.result
  split <;> exact ⟨rfl, rfl, rfl, rfl, rfl, rfl, rfl, rfl⟩

/-- The one effect an instruction has on a state, and on the state with another unread part. -/
theorem exec_effect {i : Instr} {s t : State} (h : exec i s = .next t) :
    ∃ e : Effect, e.Permitted i s ∧ t = e.result s ∧
      ∀ (u : Unread) (t' : State), exec i (s.overlay u) = .next t' → t' = e.result (s.overlay u) := by
  obtain ⟨e, hp, he⟩ := exec_hasEffect i s
  have hn (u : Unread) (t' : State) (h' : exec i (s.overlay u) = .next t') : t' = e.result (s.overlay u) :=
    (Host.Outcome.next.inj ((he u).symm.trans h')).symm
  exact ⟨e, hp, hn s.unread t h, hn⟩

end Sys2Proof.Machine
end

section
/-! SUPPORT. What CHAR leaves in its cell, and the blank glyph (10_state.md R22, 45_glyph_blitter.md R203, R205). -/

namespace Sys2Proof.Machine

open Sys2Proof.Safety

theorem mem_cellPositions (p : Fin 8 × Fin 8) : p ∈ cellPositions := by
  simp [cellPositions]

theorem mem_fontCell {f : Font} {x y : Int} {g : Fin 39} {color : Color} {ps : List (Fin 8 × Fin 8)}
    {w : Nat × Color} :
    w ∈ f.cell x y g color ps ↔ ∃ p ∈ ps, (cellIndex x y p, f.color g color p) = w := List.mem_map

@[simp] theorem setBlit_fbWord (b : BlitRegs) (s : State) (i : Nat) : (setBlit b s).fbWord i = s.fbWord i := rfl

/-- Every pixel of a cell that fits has its glyph's colour after the blit (45 R203, R205). -/
theorem fbWord_charBlit {x y : Int} (ch : Byte) (color : Color) {s : State} (hl : s.halted = false)
    (hf : cellFits x y = true) (p : Fin 8 × Fin 8) :
    (charBlit x y ch color s).fbWord (cellIndex x y p) = s.font.color (charToGlyphIndex ch) color p := by
  obtain ⟨b, -, -, e⟩ := charBlit_eq x y ch color hl hf
  rw [e, setBlit_fbWord]
  refine fbWord_writeAll_mem _ s (mem_fontCell.mpr ⟨p, mem_cellPositions p, rfl⟩) fun w hw hi => ?_
  obtain ⟨q, -, rfl⟩ := mem_fontCell.mp hw
  exact congrArg (s.font.color (charToGlyphIndex ch) color) (cellIndex_inj hf hi)

/-- CHAR of a live block at an origin that fits completes after the blit (45 R203). -/
theorem exec_char_fits {x y : Half} (ch : Byte) (color : Color) {s : State} (hl : s.halted = false)
    (hf : cellFits (coord x) (coord y) = true) :
    exec (.char x y ch color) s = .next (complete (charBlit (coord x) (coord y) ch color (start s))) := by
  obtain ⟨b, -, -, e⟩ := charBlit_eq (coord x) (coord y) ch color (s := start s) hl hf
  have hb : (charBody (coord x) (coord y) ch color (start s)).halted = false := by
    rw [charBody, e, setBlit_halted, writeAll_halted, start_halted, hl]
  rw [exec, execChar, request_completes hl hb, charBody]

theorem glyphBit_blank {rom : Vector (Vector Byte 8) 39} (h : blankGlyph rom) (row col : Fin 8) :
    glyphBit rom 0 row col = false := by
  have hr : rom[(0 : Fin 39)][row] = 0x00#8 := h row
  rw [glyphBit, hr, BitVec.getLsbD_zero]

/-- The power-on glyph table's entry 0 is blank (10 R22). -/
theorem blankGlyph_reset : blankGlyph State.reset.glyphRom := fun r => by
  simp [State.reset, defaultGlyphRom]

end Sys2Proof.Machine
end

section
/-! The statements about the state (10_state.md). -/

open Sys2Proof Sys2Proof.Machine Sys2Proof.Safety

/-- Settles O48: a request's effect ends in `complete` or in `raise`. -/
theorem requestsEndCompletedOrHalted : Obligations.RequestsEndCompletedOrHalted := by
  intro s t i hw hl h
  obtain ⟨e, hp, rfl, -⟩ := exec_effect h
  have hg := hp.ends hw hl
  unfold Effect.result
  split
  · exact ⟨rfl, .inl ⟨rfl, rfl⟩⟩
  · contradiction
  · exact ⟨rfl, .inr ⟨rfl, rfl, rfl⟩⟩

/-- Settles O49: an ending leaves FB, RSTATE, the lines and TRACE as the effect moved them. -/
theorem accessByRequest : Obligations.AccessByRequest := by
  intro s t i h
  obtain ⟨e, hp, rfl, -⟩ := exec_effect h
  obtain ⟨hf, hr, hlines, hrest⟩ := result_frame e s
  refine ⟨fun hi => hf.trans (hp.fb hi), fun hi => hr.trans (hp.rstate hi), fun hi => ?_, hrest⟩
  rw [result_trace, hlines, hp.events hi, List.append_nil]
  exact ⟨rfl, rfl⟩

/-- Settles O50: every effect appends its events. -/
theorem traceOnlyGrows : Obligations.TraceOnlyGrows := by
  intro s t i h
  obtain ⟨e, -, rfl, -⟩ := exec_effect h
  exact ⟨e.events, (result_trace e s).symm⟩

/-- Settles O51: both states have the same effect, since the lines and TRACE are in the unread part. -/
theorem linesAndTraceAreNeverRead : Obligations.LinesAndTraceAreNeverRead := by
  intro s t t' i l tr h h'
  obtain ⟨e, -, rfl, he⟩ := exec_effect h
  obtain rfl := he { s.unread with lines := l, trace := tr } t' h'
  refine ⟨?_, e.events, result_trace e _, result_trace e _⟩
  unfold Effect.result; split <;> rfl

/-- Settles O52: both states have the same effect, since the engine registers and the bytes left to send are in the
unread part. -/
theorem engineRegistersAreNeverReadFirst : Obligations.EngineRegistersAreNeverReadFirst := by
  intro s t t' i l b r p h h'
  obtain ⟨e, -, rfl, he⟩ := exec_effect h
  obtain rfl := he { s.unread with line := l, blit := b, streamer := r, pending := p } t' h'
  unfold Effect.result; split <;> rfl

/-- Settles O9: a busy live block fetches from the bytes left to send. -/
theorem stepRunsThePendingCommand : Obligations.StepRunsThePendingCommand := by
  intro s i rest hp hl hb hd
  have hf : fetch s = .run i { s with pending := rest } := by simp [fetch, fetchWire, hp, hl, hb, hd]
  rw [step, hf]

/-- Settles O12: each value is a field of `State.reset`, whose framebuffer lists no written byte. -/
theorem stateAfterPowerOn : Obligations.StateAfterPowerOn :=
  ⟨rfl, rfl, rfl, rfl, rfl, rfl, rfl, rfl, blankGlyph_reset, fun _ => rfl⟩

/-- Settles O14: nothing has been written, sent or raised at power-on. -/
theorem powerOnStateMeetsInvariant : Obligations.PowerOnStateMeetsInvariant where
  memory := wf_reset
  blank := blankGlyph_reset
  framed := rfl
  lines := rfl
  rest _ := ⟨rfl, rfl⟩
  resetLine := rfl
  notBusy := nofun
  sent _ := rfl
  rstate := nofun
  settled _ _ := .inl rfl
  noPlot := nofun
  faultRqi := rfl

/-- Settles O40: the invariant's blank glyph 0 gives every pixel of the cell BG_COLOR. -/
theorem blankGlyphFillsWithBackground : Obligations.BlankGlyphFillsWithBackground := by
  intro s t x y ch color hinv hl hf hg h row col
  rw [exec_char_fits ch color hl hf] at h
  obtain rfl := Host.Outcome.next.inj h
  have hb : glyphBit (start s).font.rom 0 row col = false := glyphBit_blank hinv.blank row col
  have hw := fbWord_charBlit ch color (s := start s) hl hf (row, col)
  rw [hg, Font.color, hb] at hw
  exact hw
end

section
/-! SUPPORT. The index formula in the two forms the rules write it (20_memory.md R51). -/

namespace Sys2Proof.Machine

theorem pixelIndex_eq (x y : Nat) : pixelIndex x y = 96 * y + x := by
  rw [pixelIndex, panelWidth, Nat.mul_comm]

/-- On the panel the index of the truncated coordinates is the formula over the integers (20 R51, R53). -/
theorem pixelIndex_toNat {x y : Int} (h : onPanel x y = true) :
    pixelIndex x.toNat y.toNat = (y * 96 + x).toNat := by
  obtain ⟨hx, -, hy, -⟩ := onPanel_iff.mp h
  rw [pixelIndex_eq]; omega

end Sys2Proof.Machine
end

section
/-! The statements about the framebuffer (20_memory.md). -/

open Sys2Proof Sys2Proof.Machine

/-- Settles O45: on the panel Plot is the word write at the pixel's index, off it the fault. -/
theorem plotWritesOneWord : Obligations.PlotWritesOneWord := by
  refine fun x y c s => ⟨fun hon => ?_, fun hoff => ?_⟩
  · rw [plot_on c s hon, pixelIndex_toNat hon]
    exact ⟨fbWord_writeWord_same _ c s, fun a hhi hlo => fbByte_writeWord_other c s hhi hlo, rfl⟩
  · rw [plot_off c s hoff]
    exact ⟨raise_fault .plot s, raise_fb .plot s⟩

/-- Settles O46: `96 y + x` with `x` below 96 is division by 96 with its remainder. -/
theorem indexFormulaInverts : Obligations.IndexFormulaInverts := by
  refine ⟨pixelIndex_eq, fun x y hx hy => ?_, fun i hi => ?_⟩
  · rw [pixelIndex_eq]; omega
  · rw [pixelIndex_eq, Nat.div_add_mod]; omega
end

section
/-! SUPPORT. The two decoders: what the request decoder can answer, and that each decoder reads back what the encoder
writes (30_encoding.md R80 to R99). -/

namespace Sys2Proof

open Sys2Proof.Machine

/-- A byte names no request exactly when it is none of the eight request opcodes (30 R81, R92). -/
theorem isReservedByte_iff_not_opcode (b : Byte) :
    isReservedByte b = true ↔ b ≠ opReset ∧ b ≠ opClear ∧ b ≠ opRender ∧ b ≠ opLine ∧ b ≠ opChar ∧ b ≠ opString ∧
      b ≠ opScroll ∧ b ≠ opInvert := by
  simp only [isReservedByte, Bool.or_eq_true, beq_iff_eq, decide_eq_true_eq, ne_eq, opReset, opClear, opRender, opLine,
    opChar, opString, opScroll, opInvert, ← BitVec.toNat_inj, BitVec.toNat_ofNat]
  omega

/-- A byte that names no request is one of 00 and 09 to FF (30 R92). -/
theorem isReservedByte_iff (b : Byte) : isReservedByte b = true ↔ b = 0x00#8 ∨ 0x09 ≤ b.toNat := by
  simp [isReservedByte]

@[simp] theorem bool8_ofBool8 (v : Bool) : bool8 (ofBool8 v) = v := by cases v <;> rfl

/-- The length byte of a STRING holds its text's length (30 R88). -/
theorem textLength_toNat {text : List Byte} (h : text.length ≤ 255) :
    (BitVec.ofNat 8 text.length).toNat = text.length := by
  rw [BitVec.toNat_ofNat, Nat.mod_eq_of_lt (by omega)]

@[simp] theorem decodeRequest_opReset (bs : List Byte) : decodeRequest (opReset :: bs) = .ok (.reset, bs) := rfl
@[simp] theorem decodeRequest_opClear (bs : List Byte) : decodeRequest (opClear :: bs) = decodeClear bs := rfl
@[simp] theorem decodeRequest_opRender (bs : List Byte) : decodeRequest (opRender :: bs) = decodeRender bs := rfl
@[simp] theorem decodeRequest_opLine (bs : List Byte) : decodeRequest (opLine :: bs) = decodeLine bs := rfl
@[simp] theorem decodeRequest_opChar (bs : List Byte) : decodeRequest (opChar :: bs) = decodeChar bs := rfl
@[simp] theorem decodeRequest_opString (bs : List Byte) : decodeRequest (opString :: bs) = decodeString bs := rfl
@[simp] theorem decodeRequest_opScroll (bs : List Byte) : decodeRequest (opScroll :: bs) = decodeScroll bs := rfl
@[simp] theorem decodeRequest_opInvert (bs : List Byte) : decodeRequest (opInvert :: bs) = decodeInvert bs := rfl

/-- A byte that names no request is a packet of its own (30 R92). -/
theorem decodeRequest_reserved {b : Byte} (bs : List Byte) (h : isReservedByte b = true) :
    decodeRequest (b :: bs) = .ok (.reserved b, bs) := by
  simp [decodeRequest, (isReservedByte_iff_not_opcode b).mp h]

/-- The request decoder reads back a packet: each operand decoder puts the two bytes of a 16-bit operand together, and
STRING's takes as many characters as its length byte says (30 R83 to R92, R96). -/
theorem decodeRequest_encode (ops : Opcodes) {i : Instr} (rest : List Byte) (h : i.wellFormed ops = true)
    (hw : i.wire? = none) : decodeRequest (encode ops i ++ rest) = .ok (i.expand, rest) := by
  cases i with
  | reset => rfl
  | clear color => simp [encode, beBytes, decodeClear, Instr.expand]
  | render startCol endCol startRow endRow => rfl
  | line x0 y0 x1 y1 color => simp [encode, beBytes, decodeLine, Instr.expand]
  | char x y ch color => simp [encode, beBytes, decodeChar, Instr.expand]
  | string x y color text =>
    have hn := textLength_toNat (by simpa [Instr.wellFormed] using h)
    simp [encode, beBytes, decodeString, Instr.expand, hn]
  | scroll hOffset vOffset interval enable => simp [encode, decodeScroll, Instr.expand]
  | invert on => simp [encode, decodeInvert, Instr.expand]
  | reserved b0 => exact decodeRequest_reserved rest h
  | renderAll => rfl
  | clearRgb r g b => simp [encode, beBytes, decodeClear, Instr.expand]
  | _ => simp [Instr.wire?] at hw

/-- What a packet can hold: a well-formed request that abbreviates no other (30 R83 to R92). -/
structure Instr.IsRequest (i : Instr) : Prop where
  wire : i.wire? = none
  expand : i.expand = i
  wellFormed : ∀ ops, i.wellFormed ops = true

/-- A decoder's answer to the bytes `bs` when it needs `n` of them: a request and the bytes after the `n`, or
`incomplete` where they are fewer (30 R91). -/
def Takes (n : Nat) (bs : List Byte) (answer : Except DecodeError (Instr × List Byte)) : Prop :=
  (n ≤ bs.length ∧ ∃ i : Instr, i.IsRequest ∧ answer = .ok (i, bs.drop n)) ∨
  (bs.length < n ∧ answer = .error .incomplete)

/-- Operand bytes after byte 0 make a packet one byte longer. -/
theorem Takes.cons {n : Nat} {bs : List Byte} {answer : Except DecodeError (Instr × List Byte)} (b : Byte)
    (h : Takes n bs answer) : Takes (n + 1) (b :: bs) answer := by
  simpa [Takes] using h

theorem decodeClear_takes : ∀ bs, Takes 2 bs (decodeClear bs)
  | _ :: _ :: _ => .inl ⟨by simp, _, ⟨rfl, rfl, fun _ => rfl⟩, rfl⟩
  | [] | [_] => .inr ⟨by simp, rfl⟩

theorem decodeRender_takes : ∀ bs, Takes 4 bs (decodeRender bs)
  | _ :: _ :: _ :: _ :: _ => .inl ⟨by simp, _, ⟨rfl, rfl, fun _ => rfl⟩, rfl⟩
  | [] | [_] | [_, _] | [_, _, _] => .inr ⟨by simp, rfl⟩

theorem decodeLine_takes : ∀ bs, Takes 10 bs (decodeLine bs)
  | _ :: _ :: _ :: _ :: _ :: _ :: _ :: _ :: _ :: _ :: _ => .inl ⟨by simp, _, ⟨rfl, rfl, fun _ => rfl⟩, rfl⟩
  | [] | [_] | [_, _] | [_, _, _] | [_, _, _, _] | [_, _, _, _, _] | [_, _, _, _, _, _] | [_, _, _, _, _, _, _]
  | [_, _, _, _, _, _, _, _] | [_, _, _, _, _, _, _, _, _] => .inr ⟨by simp, rfl⟩

theorem decodeChar_takes : ∀ bs, Takes 7 bs (decodeChar bs)
  | _ :: _ :: _ :: _ :: _ :: _ :: _ :: _ => .inl ⟨by simp, _, ⟨rfl, rfl, fun _ => rfl⟩, rfl⟩
  | [] | [_] | [_, _] | [_, _, _] | [_, _, _, _] | [_, _, _, _, _] | [_, _, _, _, _, _] => .inr ⟨by simp, rfl⟩

/-- STRING's operands are seven bytes, the last one the length of the text, and the text (30 R88). -/
theorem decodeString_takes : ∀ bs, Takes (7 + (bs.getD 6 0x00#8).toNat) bs (decodeString bs)
  | x1 :: x0 :: y1 :: y0 :: k1 :: k0 :: len :: rest => by
    by_cases h : len.toNat ≤ rest.length
    · have hlen := len.isLt
      have hi : (Instr.string (half x1 x0) (half y1 y0) (half k1 k0) (rest.take len.toNat)).IsRequest :=
        ⟨rfl, rfl, fun _ => by simp [Instr.wellFormed]; omega⟩
      exact .inl ⟨by simp; omega, _, hi, by simp [decodeString, h, Nat.add_comm 7]⟩
    · exact .inr ⟨by simp; omega, by simp [decodeString, h]⟩
  | [] | [_] | [_, _] | [_, _, _] | [_, _, _, _] | [_, _, _, _, _] | [_, _, _, _, _, _] => .inr ⟨by simp, rfl⟩

theorem decodeScroll_takes : ∀ bs, Takes 4 bs (decodeScroll bs)
  | _ :: _ :: _ :: _ :: _ => .inl ⟨by simp, _, ⟨rfl, rfl, fun _ => rfl⟩, rfl⟩
  | [] | [_] | [_, _] | [_, _, _] => .inr ⟨by simp, rfl⟩

theorem decodeInvert_takes : ∀ bs, Takes 1 bs (decodeInvert bs)
  | _ :: _ => .inl ⟨by simp, _, ⟨rfl, rfl, fun _ => rfl⟩, rfl⟩
  | [] => .inr ⟨by simp, rfl⟩

/-- All the request decoder can answer: it takes as many bytes as PacketLength says (30 R91, R93). -/
theorem decodeRequest_takes (b : Byte) (bs : List Byte) :
    Takes (packetLength b ((b :: bs).getD 7 0x00#8)) (b :: bs) (decodeRequest (b :: bs)) := by
  by_cases hr : isReservedByte b = true
  · rw [Laws.EncodedLength.packetLength_reserved b _ hr]
    exact .inl ⟨by simp, .reserved b, ⟨rfl, rfl, fun _ => hr⟩, decodeRequest_reserved bs hr⟩
  simp only [isReservedByte_iff_not_opcode, ne_eq, not_and_or, not_not] at hr
  rcases hr with rfl | rfl | rfl | rfl | rfl | rfl | rfl | rfl
  · exact .inl ⟨by simp [packetLength], _, ⟨rfl, rfl, fun _ => rfl⟩, rfl⟩
  · exact (decodeClear_takes bs).cons opClear
  · exact (decodeRender_takes bs).cons opRender
  · exact (decodeLine_takes bs).cons opLine
  · exact (decodeChar_takes bs).cons opChar
  · have h := (decodeString_takes bs).cons opString
    rwa [Nat.add_right_comm] at h
  · exact (decodeScroll_takes bs).cons opScroll
  · exact (decodeInvert_takes bs).cons opInvert

/-- What the request decoder answers is a request, after a packet of the length its bytes say (30 R91, R93). -/
theorem decodeRequest_ok {bs rest : List Byte} {i : Instr} (h : decodeRequest bs = .ok (i, rest)) :
    i.IsRequest ∧ packetLength (bs.getD 0 0x00#8) (bs.getD 7 0x00#8) ≤ bs.length ∧
      rest = bs.drop (packetLength (bs.getD 0 0x00#8) (bs.getD 7 0x00#8)) := by
  cases bs with
  | nil => simp [decodeRequest] at h
  | cons b bs =>
    rcases decodeRequest_takes b bs with ⟨hn, j, hj, hd⟩ | ⟨-, hd⟩
    · obtain ⟨rfl, rfl⟩ : j = i ∧ _ = rest := by simpa using hd.symm.trans h
      exact ⟨hj, hn, rfl⟩
    · cases hd.symm.trans h

/-- In a table without repetitions the command found for an opcode is the one that has it (30 R99). -/
theorem Opcodes.find_byte {ops : Opcodes} (hd : ops.Distinct) (o : WireOp) : ops.find (ops.byte o) = some o := by
  cases hf : ops.find (ops.byte o) with
  | none => simpa using List.find?_eq_none.mp hf o o.mem_all
  | some o' =>
    have hb : ops.byte o' = ops.byte o := by simpa using List.find?_some hf
    rw [Opcodes.byte_inj hd hb]

/-- The wire decoder reads back a panel command's bytes (30 R98, R99). -/
theorem decodeWire_bytes {ops : Opcodes} {i : Instr} {o : WireOp} {ps : List Byte} (rest : List Byte)
    (hd : ops.Distinct) (h : i.wellFormed ops = true) (hw : i.wire? = some (o, ps)) :
    decodeWire ops (WireOp.bytes ops o ps ++ rest) = .ok (i, rest) := by
  have hn : ps.length = ops.params o := (wellFormed_of_wire ops hw).mp h
  have hi : o.instr ps = some i := (encode_of_wire ops hw).2
  simp [WireOp.bytes, decodeWire, Opcodes.find_byte hd, ← hn, hi]

/-- The bytes of a table word are read by one of the two decoders (log entry 14). -/
theorem decodeTableBytes_ok {bs : List Byte} {answer : Instr × List Byte} (h : decodeTableBytes bs = .ok answer) :
    decodeWire defaultOpcodes bs = .ok answer ∨ decodeRequest bs = .ok answer := by
  unfold decodeTableBytes at h
  split at h
  · cases h
  · split at h
    · split at h
      · next hd => exact .inl (hd.trans h)
      · exact .inr h
    · exact .inr h

/-- A table word that is read as no panel command is read as a request that abbreviates no other (log entry 14). -/
theorem expand_of_decodeTableWord {nbits w : Nat} {i : Instr} (h : decodeTableWord nbits w = some i)
    (hw : i.wire? = none) : i.expand = i := by
  unfold decodeTableWord at h
  split at h
  · next j rest hd =>
    obtain rfl : j = i := Option.some.inj h
    rcases decodeTableBytes_ok hd with hwire | hreq
    · obtain ⟨o, ps, hsome, -⟩ := decodeWire_ok hwire
      cases hw.symm.trans hsome
    · exact (decodeRequest_ok hreq).1.expand
  · cases h

end Sys2Proof
end

section
/-! SUPPORT. A coordinate by its bytes, what an idle block fetches, and the panel's view of the channel's events
(30_encoding.md R82, R91, R104). -/

namespace Sys2Proof.Machine

open Sys2Proof.Safety

/-- The value of two bytes, high byte first (20 R56). -/
theorem half_toNat (b0 b1 : Byte) : (half b0 b1).toNat = 256 * b0.toNat + b1.toNat := by
  rw [half, BitVec.toNat_append, ← Nat.shiftLeft_add_eq_or_of_lt b1.isLt, Nat.shiftLeft_eq]
  omega

theorem fetch_idle {s : State} (hp : s.powerOnSignal = false) (hl : s.halted = false) (hb : s.busy = false) :
    fetch s = fetchRequest s := by
  simp [fetch, hp, hl, hb]

theorem fetch_halted {s : State} (hp : s.powerOnSignal = false) (hl : s.halted = true) : fetch s = .idle s := by
  simp [fetch, hp, hl]

/-- A command byte's events show the panel that command byte, and leave DC in data-mode (30 R104, 41 R130). -/
theorem panelView_commandEvents (m : DcMode) (b : Byte) (es : List Event) :
    panelView m (commandEvents b ++ es) = .command b :: panelView .data es := by
  cases m <;> rfl

/-- A pixel burst's events show the panel that burst (30 R104, 41 R132). -/
theorem panelView_burstEvents (m : DcMode) (px : List Byte) : panelView m (burstEvents px) = [.data px] := by
  cases m <;> rfl

theorem panelView_sequenceEvents (m : DcMode) (bs : List Byte) (es : List Event) :
    panelView m (sequenceEvents bs ++ es) = bs.map .command ++ panelView (if bs = [] then m else .data) es := by
  induction bs generalizing m with
  | nil => rfl
  | cons b bs ih =>
    have e : sequenceEvents (b :: bs) ++ es = commandEvents b ++ (sequenceEvents bs ++ es) := by
      simp [sequenceEvents]
    rw [e, panelView_commandEvents, ih]
    simp

end Sys2Proof.Machine
end

section
/-! The statements about encodings (30_encoding.md). -/

open Sys2Proof Sys2Proof.Machine Sys2Proof.Safety

/-- Settles O1: by the request's form, `decodeRequest_encode`. -/
theorem requestDecodeOfEncode : Obligations.RequestDecodeOfEncode :=
  fun ops _ rest h hw => decodeRequest_encode ops rest h hw

/-- Settles O2: the opcode finds its command, whose parameters are the bytes after it. -/
theorem wireDecodeOfEncode : Obligations.WireDecodeOfEncode := by
  intro ops i o ps rest hd h hw
  rw [(encode_of_wire ops hw).1]
  exact decodeWire_bytes rest hd h hw

/-- Settles O3: each decoder evaluates to the answer. -/
theorem sampleWordsDecode : Obligations.SampleWordsDecode :=
  ⟨rfl, rfl, rfl, rfl, rfl, rfl, rfl⟩

/-- Settles O4: what the decoder answers is well-formed, and a well-formed reserved byte is read back. -/
theorem reservedBytesAreOneBytePackets : Obligations.ReservedBytesAreOneBytePackets := by
  intro b rest
  rw [← isReservedByte_iff]
  exact ⟨fun h => (decodeRequest_ok h).1.wellFormed defaultOpcodes, decodeRequest_reserved rest⟩

/-- Settles O5: the packet is the front of the bytes that PacketLength counts. -/
theorem decodedPacketHasPacketLength : Obligations.DecodedPacketHasPacketLength := by
  intro bs i rest h
  obtain ⟨-, hn, rfl⟩ := decodeRequest_ok h
  exact ⟨_, (List.take_append_drop _ bs).symm, List.length_take_of_le hn⟩

/-- Settles O6: the decoder waits exactly where the bytes are fewer than PacketLength. -/
theorem packetDecodesWhenWhole : Obligations.PacketDecodesWhenWhole := by
  intro b bs
  constructor
  · rintro ⟨i, rest, h⟩
    exact (decodeRequest_ok h).2.1
  · intro hn
    rcases decodeRequest_takes b bs with ⟨-, i, -, hd⟩ | ⟨hlt, -⟩
    · exact ⟨i, _, hd⟩
    · exact absurd hn (Nat.not_le.mpr hlt)

/-- Settles O7: the sign bit of the 16-bit value is that of its high byte. -/
theorem coordinateOfTwoBytes : Obligations.CoordinateOfTwoBytes := by
  intro b0 b1
  have h0 := b0.isLt
  have h1 := b1.isLt
  rw [coord, BitVec.toInt_eq_toNat_cond, half_toNat]
  split_ifs <;> omega

/-- Settles O8: an idle live block fetches from the request stream. -/
theorem stepRunsTheDecodedRequest : Obligations.StepRunsTheDecodedRequest := by
  intro s i rest hp hl hb hd
  rw [step, fetch_idle hp hl hb, fetchRequest, hd]

/-- Settles O10: both blocks fetch nothing. -/
theorem waitingAndHaltedBlocksDoNotMove : Obligations.WaitingAndHaltedBlocksDoNotMove := by
  rintro s hp (hl | ⟨hb, hd⟩)
  · rw [step, fetch_halted hp hl]
  · cases hl : s.halted with
    | true => rw [step, fetch_halted hp hl]
    | false => rw [step, fetch_idle hp hl hb, fetchRequest, hd]

/-- Settles O11: the decoder that reads a placed instruction reads it back, whatever bytes were there before. -/
theorem stepRunsThePlacedWord : Obligations.StepRunsThePlacedWord := by
  intro s nbits w i hd h hwf
  refine ⟨_, ?_, rfl⟩
  simp only [State.withFetchWord, h, placeInstr]
  cases hw : i.wire? with
  | none =>
    have he := decodeRequest_encode s.cfg.ops s.requests hwf hw
    rw [expand_of_decodeTableWord h hw] at he
    exact stepRunsTheDecodedRequest _ i s.requests rfl rfl rfl he
  | some c =>
    obtain ⟨o, ps⟩ := c
    exact stepRunsThePendingCommand _ i s.pending rfl rfl rfl (decodeWire_bytes s.pending hd hwf hw)

/-- Settles O19: a command byte leaves DC in data-mode, and the burst sets it again. -/
theorem panelRecoversCommandsAndBurst : Obligations.PanelRecoversCommandsAndBurst := by
  intro m bs px
  rw [panelView_sequenceEvents, panelView_burstEvents]

/-- Settles O42: a panel command is the command sequence of its opcode and parameters. -/
theorem wireCommandsSendTheirBytes : Obligations.WireCommandsSendTheirBytes := by
  intro s i o ps hw hl h
  refine ⟨_, exec_of_wire hw s, ?_⟩
  have hs : wireCommand o ps s = sendSequence (wireFault s) (WireOp.bytes s.cfg.ops o ps) s := by
    simp [wireCommand, hl]
  have hn : (WireOp.bytes s.cfg.ops o ps).length = 1 + ps.length := Nat.add_comm ps.length 1
  rw [hs, sendSequence_ok _ _ hl (by rwa [hn])]
  simp [afterSequence, WireOp.bytes, Nat.add_comm]
end

section
/-! SUPPORT. The colour conversions as arithmetic on their operands (40_color_pack.md R120, R123). -/

namespace Sys2Proof.Machine

theorem toNat_append_eq_add {n m : Nat} (a : BitVec n) (b : BitVec m) :
    (a ++ b).toNat = a.toNat * 2 ^ m + b.toNat := by
  rw [BitVec.toNat_append, ← Nat.shiftLeft_add_eq_or_of_lt b.isLt, Nat.shiftLeft_eq]

/-- The top `n` bits of an `m + n` bit value are its quotient by `2 ^ m`. -/
theorem toNat_extractLsb'_top (m n : Nat) (a : BitVec (m + n)) : (a.extractLsb' m n).toNat = a.toNat / 2 ^ m := by
  rw [BitVec.extractLsb'_toNat, Nat.shiftRight_eq_div_pow, Nat.mod_eq_of_lt]
  exact Nat.div_lt_of_lt_mul (by rw [← Nat.pow_add]; exact a.isLt)

/-- The packed colour by arithmetic (40 R120). -/
theorem rgb565_toNat (r g b : Byte) :
    (rgb565 r g b).toNat = r.toNat / 8 * 2048 + g.toNat / 4 * 32 + b.toNat / 8 := by
  rw [rgb565, toNat_append_eq_add, toNat_append_eq_add, toNat_extractLsb'_top 3 5 r, toNat_extractLsb'_top 2 6 g,
    toNat_extractLsb'_top 3 5 b]
  omega

theorem expand565_red_toNat (c : Color) : (expand565 c).1.toNat = c.toNat / 2048 * 8 := by
  rw [expand565, toNat_append_eq_add, toNat_extractLsb'_top 11 5 c, BitVec.toNat_zero]
  omega

theorem expand565_green_toNat (c : Color) : (expand565 c).2.1.toNat = c.toNat / 32 % 64 * 4 := by
  rw [expand565, toNat_append_eq_add, BitVec.extractLsb'_toNat, Nat.shiftRight_eq_div_pow, BitVec.toNat_zero]
  omega

theorem expand565_blue_toNat (c : Color) : (expand565 c).2.2.toNat = c.toNat % 32 * 8 := by
  rw [expand565, toNat_append_eq_add, BitVec.extractLsb'_toNat, Nat.shiftRight_zero, BitVec.toNat_zero]
  omega

/-- Packing loses nothing of an expanded colour (40 R123). -/
theorem rgb565_expand565 (c : Color) : rgb565 (expand565 c).1 (expand565 c).2.1 (expand565 c).2.2 = c := by
  apply BitVec.eq_of_toNat_eq
  rw [rgb565_toNat, expand565_red_toNat, expand565_green_toNat, expand565_blue_toNat]
  omega

/-- Packing depends on the top 5, 6 and 5 bits of the channels alone (40 R120, R121). -/
theorem rgb565_congr {r g b r' g' b' : Byte} (hr : r.toNat / 8 = r'.toNat / 8) (hg : g.toNat / 4 = g'.toNat / 4)
    (hb : b.toNat / 8 = b'.toNat / 8) : rgb565 r g b = rgb565 r' g' b' := by
  apply BitVec.eq_of_toNat_eq
  rw [rgb565_toNat, rgb565_toNat, hr, hg, hb]

/-- Taking off the remainder by `k` keeps the quotient by `k`, in a byte as in the numbers. -/
theorem toNat_ofNat_sub_mod_div (b : Byte) (k : Nat) :
    (BitVec.ofNat 8 (b.toNat - b.toNat % k)).toNat / k = b.toNat / k := by
  rw [BitVec.toNat_ofNat, Nat.mod_eq_of_lt (Nat.lt_of_le_of_lt (Nat.sub_le _ _) b.isLt)]
  exact Nat.div_eq_sub_mod_div.symm

end Sys2Proof.Machine
end

section
/-! The statement about colours (40_color_pack.md). -/

open Sys2Proof Sys2Proof.Machine

/-- Settles O44: `rgb565` and `expand565` by their arithmetic forms; the two stated values evaluate. -/
theorem rgb565PacksAndRoundTrips : Obligations.Rgb565PacksAndRoundTrips := by
  refine ⟨rgb565_toNat, by decide, by decide, rgb565_expand565, fun r g b => ?_, fun r g b => ?_⟩
  · have hr := r.isLt
    have hg := g.isLt
    have hb := b.isLt
    rw [expand565_red_toNat, expand565_green_toNat, expand565_blue_toNat, rgb565_toNat]
    refine ⟨?_, ?_, ?_⟩ <;> omega
  · exact rgb565_congr (toNat_ofNat_sub_mod_div r 8).symm (toNat_ofNat_sub_mod_div g 4).symm
      (toNat_ofNat_sub_mod_div b 8).symm
end

section
/-! SUPPORT. The invariant in the middle of an instruction, and what the command channel does to it
(41_command_channel.md R130 to R135): a live block's lines are at rest between operations, so an operation keeps the
invariant where its events keep the select discipline from rest on. -/

namespace Sys2Proof.Machine

open Sys2Proof.Safety

/-- A live block that meets the invariant has its lines at rest (41 R135, 70 R303). -/
theorem linesOf_eq_rest {s : State} (h : BlockInv s) (hl : s.halted = false) : linesOf s = Lines.rest := by
  simp [linesOf, Lines.rest, h.rest hl, h.resetLine]

/-- A state inside an instruction: the invariant holds and, unless a fault has halted the block, BUSY is 1, the bytes
left to send are `p` and RSTATE is `r`. -/
structure Running (p : List Byte) (r : RState) (s : State) : Prop where
  inv : BlockInv s
  busy : s.halted = false → s.busy = true
  pending : s.halted = false → s.pending = p
  rstate : s.halted = false → s.rstate = r

variable {p : List Byte} {r : RState} {s : State} {e : Effect} {k : FaultKind}

/-- The events that leave a resting bus keep the discipline after the trace so far (41 R134). -/
theorem framedFrom_trace_append (h : BlockInv s) (hl : s.halted = false) {es : List Event}
    (hf : framedFrom Lines.rest es = true) : framedFrom Lines.rest (s.trace ++ es) = true := by
  rw [framedFrom_append, h.framed, h.lines, linesOf_eq_rest h hl, hf, Bool.and_self]

theorem afterAll_trace_append (h : BlockInv s) (es : List Event) :
    Lines.rest.afterAll (s.trace ++ es) = (linesOf s).afterAll es := by
  rw [afterAll_append, h.lines]

/-- Events that return the bus to rest keep the invariant. -/
theorem running_moved (h : Running p r s) (hl : s.halted = false) (hm : e.fb.wf = true)
    (hr : e.rstate ≠ .resetAsserted) (hf : framedFrom Lines.rest e.events = true)
    (ha : Lines.rest.afterAll e.events = Lines.rest) : Running p e.rstate (e.moved s) := by
  have hlines : (linesOf s).afterAll e.events = Lines.rest := by rw [linesOf_eq_rest h.inv hl, ha]
  have hcs : (e.moved s).cs = .deasserted := congrArg Lines.cs hlines
  have hdc : (e.moved s).dc = .data := congrArg Lines.dc hlines
  have hres : (e.moved s).res = .deasserted := congrArg Lines.res hlines
  refine ⟨{ h.inv with
    memory := hm
    framed := framedFrom_trace_append h.inv hl hf
    lines := afterAll_trace_append h.inv e.events
    rest := fun _ => ⟨hcs, hdc⟩
    resetLine := hres
    rstate := hr
    settled := fun _ hb => ?_ }, h.busy, h.pending, fun _ => rfl⟩
  simp [Effect.moved, h.busy hl] at hb

/-- Events that end in a fault keep the invariant: the lines stay where the events left them (60 R268). -/
theorem running_raise_moved {r' : RState} (h : Running p r s) (hl : s.halted = false) (hk : k ≠ .plot)
    (hm : e.fb.wf = true) (hr : e.rstate ≠ .resetAsserted) (hf : framedFrom Lines.rest e.events = true)
    (ha : (Lines.rest.afterAll e.events).res = .deasserted) : Running p r' (raise k (e.moved s)) where
  inv := {
    memory := hm
    blank := h.inv.blank
    framed := framedFrom_trace_append h.inv hl hf
    lines := afterAll_trace_append h.inv e.events
    rest := nofun
    resetLine := by rw [← ha, ← linesOf_eq_rest h.inv hl]; rfl
    notBusy := fun _ => rfl
    sent := fun _ => rfl
    rstate := hr
    settled := nofun
    noPlot := fun he => hk (Option.some.inj he)
    faultRqi := rfl }
  busy := nofun
  pending := nofun
  rstate := nofun

/-- Events on the bus alone that return it to rest. -/
theorem running_busEffect {es : List Event} (n : Nat) (d : Ending) (h : Running p r s) (hl : s.halted = false)
    (hf : framedFrom Lines.rest es = true) (ha : Lines.rest.afterAll es = Lines.rest) :
    Running p r ((s.busEffect es n d).moved s) := by
  rw [← h.rstate hl]
  exact running_moved (e := s.busEffect es n d) h hl h.inv.memory h.inv.rstate hf ha

/-- Events on the bus alone that end in a fault. -/
theorem running_raise_busEffect {es : List Event} (n : Nat) (d : Ending) (h : Running p r s)
    (hl : s.halted = false) (hk : k ≠ .plot) (hf : framedFrom Lines.rest es = true)
    (ha : (Lines.rest.afterAll es).res = .deasserted) : Running p r (raise k ((s.busEffect es n d).moved s)) :=
  running_raise_moved h hl hk h.inv.memory h.inv.rstate hf ha

theorem running_raise (h : Running p r s) (hl : s.halted = false) (hk : k ≠ .plot) : Running p r (raise k s) := by
  rw [← moved_quiet s (.faults k)]
  exact running_raise_busEffect 0 _ h hl hk rfl rfl

theorem running_andThen {f : State → State} (h : Running p r s) (hf : s.halted = false → Running p r (f s)) :
    Running p r (s.andThen f) := by
  cases hl : s.halted with
  | true => rwa [andThen_halted hl]
  | false => rw [andThen_live hl]; exact hf hl

theorem running_fb {m : Memory} (h : Running p r s) (hm : m.wf = true) : Running p r { s with fb := m } :=
  { h with inv := { h.inv with memory := hm } }

/-- The engine registers are no part of the invariant. -/
theorem running_registers (l : LineRegs) (b : BlitRegs) (q : StreamRegs) (h : Running p r s) :
    Running p r { s with line := l, blit := b, streamer := q } :=
  { h with inv := { h.inv with } }

/-! The channel -/

theorem afterAll_rest_sequenceEvents (bs : List Byte) : Lines.rest.afterAll (sequenceEvents bs) = Lines.rest := by
  rw [afterAll_sequenceEvents]; split <;> rfl

/-- A failed command byte after a sequence keeps the discipline, and leaves RES alone (41 R134, 60 R268). -/
theorem framed_failedSequence (bs : List Byte) (b : Byte) :
    framedFrom Lines.rest (sequenceEvents bs ++ failedCommandEvents b) = true ∧
      (Lines.rest.afterAll (sequenceEvents bs ++ failedCommandEvents b)).res = .deasserted := by
  rw [framedFrom_append, framedFrom_sequenceEvents _ _ rfl, afterAll_append, afterAll_rest_sequenceEvents]
  exact ⟨rfl, rfl⟩

theorem running_sendSequence (bs : List Byte) (h : Running p r s) (hl : s.halted = false) (hk : k ≠ .plot) :
    Running p r (sendSequence k bs s) := by
  rcases sendSequence_cases k bs hl with ⟨-, hs⟩ | ⟨j, hj, -, hs⟩
  · rw [hs, afterSequence_eq_moved bs s .goesOn]
    exact running_busEffect _ _ h hl (framedFrom_sequenceEvents _ _ rfl) (afterAll_rest_sequenceEvents bs)
  · obtain ⟨hf, ha⟩ := framed_failedSequence (bs.take j) bs[j]
    rw [hs, sequenceFailure_eq_moved]
    exact running_raise_busEffect _ _ h hl hk hf ha

theorem afterBurst_eq_moved (bs : List Byte) (s : State) (d : Ending) :
    afterBurst bs s = (s.busEffect (burstEvents bs) 1 d).moved s := by
  simp [afterBurst, State.busEffect, Effect.moved, burstEvents, Lines.afterAll, Lines.after, linesOf]

theorem burstFailure_eq_moved (k : FaultKind) (bs : List Byte) (s : State) :
    burstFailure k bs s = raise k ((s.busEffect (failedBurstEvents bs) 1 (.faults k)).moved s) := by
  simp [burstFailure, State.busEffect, Effect.moved, failedBurstEvents, Lines.afterAll, Lines.after, linesOf]

/-- A burst of at least one byte keeps the discipline, ok or failed (41 R134). -/
theorem framed_burst {bs : List Byte} (hb : bs ≠ []) :
    framedFrom Lines.rest (burstEvents bs) = true ∧ framedFrom Lines.rest (failedBurstEvents bs) = true := by
  simp [burstEvents, failedBurstEvents, framedFrom, Lines.allows, Lines.after, Lines.rest, hb]

theorem running_sendPixelData {bs : List Byte} (h : Running p r s) (hl : s.halted = false) (hk : k ≠ .plot)
    (hb : bs ≠ []) : Running p r (sendPixelData k bs s) := by
  obtain ⟨hf, hf'⟩ := framed_burst hb
  cases ht : s.txOk 0 with
  | true =>
    rw [sendPixelData_ok k bs hl ht, afterBurst_eq_moved bs s .goesOn]
    exact running_busEffect _ _ h hl hf rfl
  | false =>
    rw [sendPixelData_fail k bs ht, burstFailure_eq_moved]
    exact running_raise_busEffect _ _ h hl hk hf' rfl

end Sys2Proof.Machine
end

section
/-! SUPPORT. The body of every request keeps the invariant (42_reset_sequencer.md, 44_line_engine.md,
45_glyph_blitter.md, 46_display_controller.md). -/

namespace Sys2Proof.Machine

open Sys2Proof.Safety

variable {p : List Byte} {r : RState} {s : State}

theorem running_requireReady {body : State → State} (h : Running p r s) (hl : s.halted = false)
    (hb : Running p r (body s)) : Running p r (requireReady body s) := by
  by_cases hr : s.rstate = .ready
  · rwa [requireReady_ready hr]
  · rw [requireReady_early hr]
    exact running_raise h hl nofun

/-- A region has at least one pixel, so its burst is not empty (43 R171). -/
theorem regionBytes_ne_nil (s : State) (a : RenderArea) : s.regionBytes a ≠ [] := by
  simp [State.regionBytes, RenderArea.rows, RenderArea.cols, State.pixelBytes, List.range'_succ]

theorem running_renderRegion (a : RenderArea) (h : Running p r s) (hl : s.halted = false) :
    Running p r (renderRegion a s) := by
  unfold renderRegion
  split
  · have ha : Running p r (latchArea a s) := running_registers _ _ _ h
    have hs := running_sendSequence (k := .command) (addressWindow s.cfg.ops a) ha hl nofun
    refine running_andThen hs fun hl' => ?_
    exact running_sendPixelData (running_registers _ _ _ hs) hl' nofun (regionBytes_ne_nil _ a)
  · exact running_raise h hl nofun

theorem running_render (a : RenderArea) (h : Running p r s) (hl : s.halted = false) :
    Running p r (renderBody a s) :=
  running_requireReady h hl (running_renderRegion a h hl)

theorem running_scroll (hOffset v interval : Byte) (enable : Bool) (h : Running p r s) (hl : s.halted = false) :
    Running p r (scrollBody hOffset v interval enable s) := by
  refine running_requireReady h hl ?_
  rw [sendSequence_snoc _ _ _ hl]
  exact running_sendSequence _ h hl nofun

theorem running_invert (on : Bool) (h : Running p r s) (hl : s.halted = false) : Running p r (invertBody on s) := by
  refine running_requireReady h hl ?_
  rw [← sendSequence_singleton _ _ hl]
  exact running_sendSequence _ h hl nofun

theorem running_clear (color : Color) (h : Running p r s) (hl : s.halted = false) :
    Running p r (clearBody color s) :=
  running_requireReady h hl (running_renderRegion fullFrame (running_fb h (wf_filled color)) hl)

/-- The reset pulse runs on a deselected bus and leaves the lines at rest (41 R134, 42 R151 to R153). -/
theorem framed_pulse (es : List Event) : framedFrom Lines.rest (pulseEvents ++ es) = framedFrom Lines.rest es ∧
    Lines.rest.afterAll (pulseEvents ++ es) = Lines.rest.afterAll es := by
  rw [framedFrom_append, afterAll_append]
  exact ⟨Bool.true_and _, rfl⟩

/-- RESET ends Ready, or with the fault of a byte of INIT_PROG (42 R154, R157). -/
theorem running_reset (h : Running p r s) (hl : s.halted = false) : Running p .ready (resetBody s) := by
  rcases txAllOk_or_fails s s.cfg.initProg.length with ht | ⟨j, hj, ht⟩
  · obtain ⟨hf, ha⟩ := framed_pulse (sequenceEvents s.cfg.initProg)
    rw [resetBody_ok hl ht, ← resetPulse_pending, afterSequence_eq_moved _ _ .completes, moved_resetPulse]
    exact running_moved (e := s.resetEffect .ready (sequenceEvents s.cfg.initProg) s.cfg.initProg.length .completes)
      h hl h.inv.memory nofun (hf.trans (framedFrom_sequenceEvents _ _ rfl))
      (ha.trans (afterAll_rest_sequenceEvents _))
  · obtain ⟨hf, ha⟩ := framed_failedSequence (s.cfg.initProg.take j) s.cfg.initProg[j]
    obtain ⟨hf', ha'⟩ :=
      framed_pulse (sequenceEvents (s.cfg.initProg.take j) ++ failedCommandEvents s.cfg.initProg[j])
    rw [resetBody_fail j hj hl ht, sequenceFailure_eq_moved, moved_resetPulse]
    exact running_raise_moved h hl nofun h.inv.memory nofun (hf'.trans hf) ((congrArg Lines.res ha').trans ha)

/-! The drawing requests -/

theorem running_writeAll {ws : List (Nat × Color)} (h : Running p r s) (hw : ∀ w ∈ ws, w.1 < 6144) :
    Running p r (writeAll ws s) := by
  rw [writeAll_eq]
  exact running_fb h (wf_writeAll ws s h.inv.memory hw)

theorem fontCell_lt {f : Font} {x y : Int} {g : Fin 39} {color : Color} {ps : List (Fin 8 × Fin 8)}
    (hf : cellFits x y = true) : ∀ w ∈ f.cell x y g color ps, w.1 < 6144 := by
  intro w hw
  obtain ⟨q, -, rfl⟩ := mem_fontCell.mp hw
  exact cellIndex_lt hf q

theorem fontText_lt (f : Font) (y : Int) (color : Color) (cx : Int) (text : List Byte) :
    ∀ w ∈ f.text y color cx text, w.1 < 6144 := by
  induction text generalizing cx with
  | nil => simp [Font.text]
  | cons ch text ih =>
    rw [Font.text, List.forall_mem_append]
    refine ⟨?_, ih (cx + 8)⟩
    split
    · next hf => exact fontCell_lt hf
    · simp

theorem pointWrites_lt (c : Color) {ps : List (Int × Int)} (hp : ∀ q ∈ ps, onPanel q.1 q.2 = true) :
    ∀ w ∈ pointWrites c ps, w.1 < 6144 := by
  intro w hw
  obtain ⟨q, hq, rfl⟩ := List.mem_map.mp hw
  exact pixelIndex_lt (hp q hq)

theorem running_line (x0 y0 x1 y1 : Int) (color : Color) (h : Running p r s) (hl : s.halted = false) :
    Running p r (lineBody x0 y0 x1 y1 color s) := by
  cases hp : onPanel x0 y0 && onPanel x1 y1 with
  | true =>
    obtain ⟨h0, h1⟩ := Bool.and_eq_true_iff.mp hp
    obtain ⟨q, e⟩ := lineBody_eq color hl h0 h1
    rw [e]
    exact running_registers _ _ _ (running_writeAll h (pointWrites_lt color (linePoints_onPanel h0 h1)))
  | false =>
    rw [lineBody_off color s hp]
    exact running_raise h hl nofun

theorem running_char (x y : Int) (ch : Byte) (color : Color) (h : Running p r s) (hl : s.halted = false) :
    Running p r (charBody x y ch color s) := by
  cases hf : cellFits x y with
  | true =>
    obtain ⟨b, -, -, e⟩ := charBlit_eq x y ch color hl hf
    rw [charBody, e]
    exact running_registers _ _ _ (running_writeAll h (fontCell_lt hf))
  | false => rwa [charBody, charBlit_clip x y ch color s hf]

theorem running_string (x y : Int) (color : Color) (text : List Byte) (h : Running p r s) (hl : s.halted = false) :
    Running p r (stringBody x y color text s) := by
  unfold stringBody
  split
  · obtain ⟨b, e⟩ := stringLoop_eq y color text (s := setOrigin 0 x s) hl
    rw [e]
    exact running_registers _ _ _ (running_writeAll (running_registers _ _ _ h) (fontText_lt _ y color _ text))
  · exact h

end Sys2Proof.Machine
end

section
/-! SUPPORT. All a step can do, and that it keeps the invariant (30_encoding.md R91, 60_exceptions.md R266,
70_reset_and_hazards.md R300). -/

namespace Sys2Proof.Machine

open Sys2Proof.Safety

variable {r : RState} {s : State}

/-- BUSY rises: nothing is left to send, as in every block that is not busy. -/
theorem running_start (h : BlockInv s) (hl : s.halted = false) (hb : s.busy = false) :
    Running [] s.rstate (start s) where
  inv := { h with
    notBusy := fun hl' => by simp [hl] at hl'
    sent := nofun
    settled := nofun }
  busy _ := rfl
  pending _ := h.sent hb
  rstate _ := rfl

/-- A request whose body keeps the invariant, and ends Idle or Ready where it raises no fault, keeps it (42 R156). -/
theorem blockInv_request {body : State → State} (hl : s.halted = false) (hr : r = .idle ∨ r = .ready)
    (hb : Running [] r (body (start s))) : BlockInv (request body s) := by
  cases hl' : (body (start s)).halted with
  | true =>
    rw [request_faults hl hl']
    exact hb.inv
  | false =>
    rw [request_completes hl hl']
    refine { hb.inv with
      notBusy := fun _ => rfl
      sent := fun _ => hb.pending hl'
      settled := fun _ _ => by rwa [complete_rstate, hb.rstate hl']
      faultRqi := ?_ }
    simpa [hl'] using hb.inv.faultRqi

/-- Every request keeps the invariant. -/
theorem blockInv_exec_request {i : Instr} {t : State} (h : BlockInv s) (hl : s.halted = false)
    (hb : s.busy = false) (hw : i.wire? = none) (he : exec i s = .next t) : BlockInv t := by
  have hs : Running [] s.rstate (start s) := running_start h hl hb
  have hbody {body : State → State} (hi : exec i s = .next (request body s))
      (hr : Running [] s.rstate (body (start s))) : BlockInv t := by
    obtain rfl := Host.Outcome.next.inj (hi.symm.trans he)
    exact blockInv_request hl (h.settled hl hb) hr
  cases i with
  | reset =>
    obtain rfl := Host.Outcome.next.inj he
    exact blockInv_request hl (.inr rfl) (running_reset hs hl)
  | clear color => exact hbody rfl (running_clear color hs hl)
  | clearRgb r g b => exact hbody rfl (running_clear (rgb565 r g b) hs hl)
  | render c0 c1 r0 r1 => exact hbody rfl (running_render ⟨c0, c1, r0, r1⟩ hs hl)
  | renderAll => exact hbody rfl (running_render fullFrame hs hl)
  | scroll hOffset v n e => exact hbody rfl (running_scroll hOffset v n e hs hl)
  | invert on => exact hbody rfl (running_invert on hs hl)
  | line x0 y0 x1 y1 color => exact hbody rfl (running_line _ _ _ _ color hs hl)
  | char x y ch color => exact hbody rfl (running_char _ _ ch color hs hl)
  | string x y color text => exact hbody rfl (running_string _ _ color text hs hl)
  | reserved b0 =>
    rw [exec, execReserved, if_neg (by simp [hl])] at he
    obtain rfl := Host.Outcome.next.inj he
    have hr : raise .opcode s = raise .opcode (start s) := rfl
    rw [hr]
    exact (running_raise hs hl (by decide)).inv
  | _ => simp [Instr.wire?] at hw

/-- A live block's panel command is the command sequence of its opcode and parameters (30 R98, 41 R131). -/
theorem wireCommand_live (o : WireOp) (ps : List Byte) (hl : s.halted = false) :
    wireCommand o ps s = sendSequence (wireFault s) (s.cfg.ops.byte o :: ps) s := by
  rw [wireCommand, if_neg (by simp [hl]), WireOp.bytes]

/-- What the streamer does in a step: it sends some bytes off the front of those left to send (30 R98, 41 R131). -/
theorem step_streamer {t : State} (hp : s.powerOnSignal = false) (hl : s.halted = false) (hb : s.busy = true)
    (h : step s = .next t) :
    ∃ bs q, s.pending = bs ++ q ∧ t = sendSequence (wireFault s) bs { s with pending := q } := by
  have hf : fetch s = fetchWire s := by simp [fetch, hp, hl, hb]
  rw [step, hf, fetchWire] at h
  cases hd : decodeWire s.cfg.ops s.pending with
  | ok a =>
    obtain ⟨i, q⟩ := a
    obtain ⟨o, ps, hw, -, hbs⟩ := decodeWire_ok hd
    simp only [hd, exec_of_wire hw] at h
    obtain rfl := Host.Outcome.next.inj h
    exact ⟨_, q, hbs, wireCommand_live o ps (s := { s with pending := q }) hl⟩
  | error _ =>
    cases hq : s.pending with
    | nil => simp [hq, decodeWire] at h
    | cons b q =>
      rw [hd, hq] at h
      obtain rfl := Host.Outcome.next.inj h
      exact ⟨[b], q, rfl, (sendSequence_singleton _ b (s := { s with pending := q }) hl).symm⟩

/-- All a step can do (30 R91, 41 R131, 60 R266, 70 R300). -/
theorem step_cases {t : State} (h : step s = .next t) :
    (s.powerOnSignal = true ∧ t = powerOn s) ∨ t = s ∨
    (s.halted = false ∧ s.busy = true ∧
      ∃ bs q, s.pending = bs ++ q ∧ t = sendSequence (wireFault s) bs { s with pending := q }) ∨
    (s.halted = false ∧ s.busy = false ∧
      ∃ i q, decodeRequest s.requests = .ok (i, q) ∧ exec i { s with requests := q } = .next t) := by
  rcases Bool.eq_false_or_eq_true s.powerOnSignal with hp | hp
  · rw [step, fetch, if_pos hp] at h
    exact .inl ⟨hp, (Host.Outcome.next.inj h).symm⟩
  rcases Bool.eq_false_or_eq_true s.halted with hl | hl
  · rw [step, fetch_halted hp hl] at h
    exact .inr (.inl (Host.Outcome.next.inj h).symm)
  rcases Bool.eq_false_or_eq_true s.busy with hb | hb
  · exact .inr (.inr (.inl ⟨hl, hb, step_streamer hp hl hb h⟩))
  rw [step, fetch_idle hp hl hb, fetchRequest] at h
  cases hd : decodeRequest s.requests with
  | ok a =>
    rw [hd] at h
    exact .inr (.inr (.inr ⟨hl, hb, a.1, a.2, rfl, h⟩))
  | error _ =>
    rw [hd] at h
    exact .inr (.inl (Host.Outcome.next.inj h).symm)

/-- Power-on reset brings the block to a state that meets the invariant, and keeps GLYPH_ROM (70 R300). -/
theorem blockInv_powerOn (h : BlockInv s) : BlockInv (powerOn s) :=
  { powerOnStateMeetsInvariant with blank := h.blank }

theorem wireFault_ne_plot (s : State) : wireFault s ≠ .plot := by
  unfold wireFault; split <;> nofun

/-- The streamer keeps the invariant whatever it sends. -/
theorem blockInv_streamer (bs q : List Byte) (h : BlockInv s) (hl : s.halted = false) (hb : s.busy = true) :
    BlockInv (sendSequence (wireFault s) bs { s with pending := q }) := by
  have hs : Running q s.rstate { s with pending := q } :=
    ⟨{ h with sent := fun hb' => by simp [hb] at hb' }, fun _ => hb, fun _ => rfl, fun _ => rfl⟩
  exact (running_sendSequence bs hs hl (wireFault_ne_plot s)).inv

end Sys2Proof.Machine
end

section
/-! SUPPORT. The bus events of a request that completes (41_command_channel.md R138). -/

namespace Sys2Proof.Machine

open Sys2Proof.Safety

variable {s : State} {k : FaultKind} {body : State → State}

/-- A sequence that raises no fault has been sent whole. -/
theorem sendSequence_trace_length (bs : List Byte) (hl : s.halted = false)
    (h : (sendSequence k bs s).halted = false) :
    (sendSequence k bs s).trace.length = s.trace.length + 5 * bs.length := by
  rcases sendSequence_cases k bs hl with ⟨-, hs⟩ | ⟨j, hj, -, hs⟩
  · rw [hs, afterSequence, List.length_append, sequenceEvents_length]
  · simp [hs] at h

/-- A request that raises no fault appends what its body appends. -/
theorem request_trace_length {n : Nat} (hl : s.halted = false) (h : (request body s).halted = false)
    (hb : (body (start s)).halted = false → (body (start s)).trace.length = s.trace.length + n) :
    (request body s).trace.length = s.trace.length + n := by
  cases hl' : (body (start s)).halted with
  | true => simp [request_faults hl hl', hl'] at h
  | false => rw [request_completes hl hl', complete_trace, hb hl']

/-- A request that tests RSTATE and raises no fault has run its body (46 R237). -/
theorem requireReady_live (h : (requireReady body s).halted = false) : requireReady body s = body s := by
  by_cases hr : s.rstate = .ready
  · exact requireReady_ready hr
  · simp [requireReady_early hr] at h

/-- A region render that raises no fault sends a window of six bytes and one burst (46 R231). -/
theorem renderRegion_trace_length (a : RenderArea) (hl : s.halted = false)
    (h : (renderRegion a s).halted = false) : (renderRegion a s).trace.length = s.trace.length + 34 := by
  rcases renderRegion_cases a hl with ⟨-, hs⟩ | ⟨-, ⟨j, hj, -, hs⟩ | ⟨-, hs⟩ | ⟨-, hs⟩⟩
  · simp [hs] at h
  · simp [hs] at h
  · simp [hs] at h
  · simp [hs, afterBurst, afterSequence, sequenceEvents_length, burstEvents]

theorem renderBody_trace_length (a : RenderArea) (hl : s.halted = false) (h : (renderBody a s).halted = false) :
    (renderBody a s).trace.length = s.trace.length + 34 := by
  have hs := requireReady_live h
  rw [renderBody, hs] at h ⊢
  exact renderRegion_trace_length a hl h

theorem clearBody_trace_length (color : Color) (hl : s.halted = false) (h : (clearBody color s).halted = false) :
    (clearBody color s).trace.length = s.trace.length + 34 := by
  have hs := requireReady_live h
  rw [clearBody, hs] at h ⊢
  exact renderRegion_trace_length fullFrame (s := fillAll color s) hl h

theorem scrollBody_trace_length (hOffset v interval : Byte) (enable : Bool) (hl : s.halted = false)
    (h : (scrollBody hOffset v interval enable s).halted = false) :
    (scrollBody hOffset v interval enable s).trace.length = s.trace.length + 35 := by
  have hs := requireReady_live h
  rw [scrollBody, hs, sendSequence_snoc _ _ _ hl] at h ⊢
  exact sendSequence_trace_length _ hl h

theorem invertBody_trace_length (on : Bool) (hl : s.halted = false) (h : (invertBody on s).halted = false) :
    (invertBody on s).trace.length = s.trace.length + 5 := by
  have hs := requireReady_live h
  rw [invertBody, hs, ← sendSequence_singleton _ _ hl] at h ⊢
  exact sendSequence_trace_length _ hl h

theorem resetBody_trace_length (hl : s.halted = false) (h : (resetBody s).halted = false) :
    (resetBody s).trace.length = s.trace.length + (7 + 5 * s.cfg.initProg.length) := by
  rcases txAllOk_or_fails s s.cfg.initProg.length with ht | ⟨j, hj, ht⟩
  · simp [resetBody_ok hl ht, afterSequence, resetPulse_eq, sequenceEvents_length, pulseEvents, Nat.add_comm 7]
  · simp [resetBody_fail j hj hl ht] at h

end Sys2Proof.Machine
end

section
/-! The statements about the command channel (41_command_channel.md). -/

open Sys2Proof Sys2Proof.Machine Sys2Proof.Safety

/-- Settles O15: power-on reset, the streamer and every request keep the invariant, and a step can do nothing else. -/
theorem everyStepKeepsInvariant : Obligations.EveryStepKeepsInvariant := by
  intro s t h hstep
  rcases step_cases hstep with ⟨-, rfl⟩ | rfl | ⟨hl, hb, bs, q, -, rfl⟩ | ⟨hl, hb, i, q, hd, he⟩
  · exact blockInv_powerOn h
  · exact h
  · exact blockInv_streamer bs q h hl hb
  · exact blockInv_exec_request (s := { s with requests := q }) { h with } hl hb (decodeRequest_ok hd).1.wire he

/-- Settles O16: `sendCommand_ok` and `sendCommand_fail`, whose next states are those written out here. -/
theorem sendCommandFramesOneByte : Obligations.SendCommandFramesOneByte :=
  fun k b _ hl => ⟨sendCommand_ok k b hl, fun h => ⟨_, sendCommand_fail k b h, rfl⟩⟩

/-- Settles O17: either every byte is sent, and the bytes left to send are again what they were, or the first that fails
ends the sequence. -/
theorem sequenceSendsEveryByteAlone : Obligations.SequenceSendsEveryByteAlone := by
  refine fun k bs s hl => ⟨fun h => ?_, sequenceEvents_length bs, fun j hj h => ?_⟩
  · rw [sendSequence_ok k bs hl h]
    simp [afterSequence]
  · exact ⟨_, sendSequence_fail k bs j hj hl h, rfl⟩

/-- Settles O18: `sendPixelData_ok` and `sendPixelData_fail`, whose next states are those written out here. -/
theorem pixelBurstIsOneTransfer : Obligations.PixelBurstIsOneTransfer :=
  fun k bs _ hl => ⟨sendPixelData_ok k bs hl, fun h => ⟨_, sendPixelData_fail k bs h, rfl⟩⟩

/-- Settles O43: a panel command is a command sequence, which ends at the byte that fails. -/
theorem wireCommandStopsAtAFailedByte : Obligations.WireCommandStopsAtAFailedByte := by
  intro s i o ps j hj hw hl h
  refine ⟨_, exec_of_wire hw s, ?_⟩
  rw [wireCommand_live o ps hl, sendSequence_fail _ _ j hj hl h, sequenceFailure_eq_moved]
  rfl

/-- Settles O54: by the request, the events of a body that raises no fault. -/
theorem eventCounts : Obligations.EventCounts := by
  intro s t i hl h ht
  have hcount {body : State → State} {n : Nat} (hi : exec i s = .next (request body s))
      (hb : (body (start s)).halted = false → (body (start s)).trace.length = s.trace.length + n) :
      t.trace.length = s.trace.length + n := by
    obtain rfl := Host.Outcome.next.inj (hi.symm.trans h)
    exact request_trace_length hl ht hb
  refine ⟨?_, ?_, ?_, ?_, ?_⟩
  · rintro on rfl
    exact hcount rfl (invertBody_trace_length on hl)
  · rintro hOffset v n e rfl
    exact hcount rfl (scrollBody_trace_length hOffset v n e hl)
  · rintro a (rfl | ⟨rfl, rfl⟩)
    · exact hcount rfl (renderBody_trace_length a hl)
    · exact hcount rfl (renderBody_trace_length fullFrame hl)
  · rintro c (rfl | ⟨r, g, b, rfl, rfl⟩)
    · exact hcount rfl (clearBody_trace_length c hl)
    · exact hcount rfl (clearBody_trace_length (rgb565 r g b) hl)
  · rintro rfl
    rw [Nat.add_assoc]
    exact hcount rfl (resetBody_trace_length (s := start s) hl)
end

section
/-! SUPPORT. What RESET of a live block answers, as the end of the channel's sequence after the pulse
(42_reset_sequencer.md R150 to R154, R157). -/

namespace Sys2Proof.Machine

open Sys2Proof.Safety

/-- RESET of a live block whose transfers succeed completes after the program (42 R154). -/
theorem exec_reset_ok {s : State} (hl : s.halted = false) (h : txAllOk s s.cfg.initProg.length) :
    exec .reset s =
      .next (complete (setRState .ready
        (afterSequence (start s).pending s.cfg.initProg (resetPulse (start s))))) := by
  have hb := resetBody_ok (s := start s) hl h
  have hlive : (resetBody (start s)).halted = false := by simpa [hb] using hl
  rw [exec, execReset, request_completes hl hlive, hb]
  rfl

/-- RESET of a live block ends at the first byte of the program that fails (42 R157). -/
theorem exec_reset_fail (j : Nat) {s : State} (hj : j < s.cfg.initProg.length) (hl : s.halted = false)
    (h : txFailsAt s j) :
    exec .reset s = .next (sequenceFailure .init s.cfg.initProg j hj (resetPulse (start s))) := by
  have hb := resetBody_fail (s := start s) j hj hl h
  have hstop : (resetBody (start s)).halted = true := by simp [hb]
  rw [exec, execReset, request_faults hl hstop, hb]
  rfl

end Sys2Proof.Machine
end

section
/-! The statements about RESET (42_reset_sequencer.md). -/

open Sys2Proof Sys2Proof.Machine Sys2Proof.Safety

/-- Settles O20: the pulse and the program are one effect. CS ends deasserted for an empty program too, since the pulse
already left it so. -/
theorem resetPulsesInitialisesAndBecomesReady : Obligations.ResetPulsesInitialisesAndBecomesReady := by
  intro s hl h
  refine ⟨_, exec_reset_ok hl h, ?_, ?_, ?_⟩
  · rw [← resetPulse_pending, afterSequence_eq_moved _ _ .completes, moved_resetPulse]
    rfl
  · change (if s.cfg.initProg = [] then Line.deasserted else .deasserted) = .deasserted
    exact ite_self _
  · rfl

/-- Settles O21: the program ends at the byte that fails, with the lines of a failed command byte and RES as the pulse
left it. -/
theorem resetStopsAtAFailedInitByte : Obligations.ResetStopsAtAFailedInitByte := by
  intro s j hj hl h
  refine ⟨_, exec_reset_fail j hj hl h, ?_, rfl, rfl, rfl⟩
  rw [sequenceFailure_eq_moved, moved_resetPulse, List.append_assoc]
  rfl
end

section
/-! SUPPORT. The size of a valid area: its columns and rows, and when they are all of the panel (43_address_window.md
R170, R171, R174). -/

namespace Sys2Proof.Machine

variable {a : RenderArea}

theorem RenderArea.valid_iff :
    a.valid = true ↔ a.startCol.toNat ≤ a.endCol.toNat ∧ a.endCol.toNat ≤ 95 ∧
      a.startRow.toNat ≤ a.endRow.toNat ∧ a.endRow.toNat ≤ 63 := by
  simp [RenderArea.valid, and_assoc]

theorem RenderArea.cols_pos (a : RenderArea) : 0 < a.cols := Nat.succ_pos _

theorem RenderArea.rows_pos (a : RenderArea) : 0 < a.rows := Nat.succ_pos _

theorem RenderArea.cols_le (h : a.valid = true) : a.cols ≤ 96 := by
  obtain ⟨-, hc, -, -⟩ := RenderArea.valid_iff.mp h
  unfold RenderArea.cols
  omega

theorem RenderArea.rows_le (h : a.valid = true) : a.rows ≤ 64 := by
  obtain ⟨-, -, -, hr⟩ := RenderArea.valid_iff.mp h
  unfold RenderArea.rows
  omega

theorem RenderArea.byteLength_eq (a : RenderArea) : a.byteLength = 2 * (a.cols * a.rows) := Nat.mul_assoc ..

/-- An area as wide and as high as the panel leaves no bound a choice (43 R174). -/
theorem RenderArea.eq_fullFrame_iff (h : a.valid = true) : a = fullFrame ↔ a.cols = 96 ∧ a.rows = 64 := by
  constructor
  · rintro rfl
    decide
  · rintro ⟨hcols, hrows⟩
    obtain ⟨-, hc, -, hr⟩ := RenderArea.valid_iff.mp h
    obtain ⟨c0, c1, r0, r1⟩ := a
    simp only [RenderArea.cols, RenderArea.rows] at hcols hrows hc hr
    rw [fullFrame, RenderArea.mk.injEq]
    refine ⟨?_, ?_, ?_, ?_⟩ <;> bv_omega

/-- Neither factor can make up for the other: both are at their bound or the product is short of it. -/
theorem RenderArea.byteLength_eq_max_iff (h : a.valid = true) :
    a.byteLength = 12288 ↔ a.cols = 96 ∧ a.rows = 64 := by
  rw [RenderArea.byteLength_eq, show 12288 = 2 * (96 * 64) from rfl, Nat.mul_right_inj two_ne_zero,
    mul_eq_mul_iff_eq_and_eq_of_pos (RenderArea.cols_le h) (RenderArea.rows_le h) a.cols_pos (by decide)]

end Sys2Proof.Machine
end

section
/-! The statement about the address window (43_address_window.md). -/

open Sys2Proof Sys2Proof.Machine

/-- Settles O26: an area has 1 to 96 columns and 1 to 64 rows, and its length is twice their product. -/
theorem byteLengthBounds : Obligations.ByteLengthBounds := by
  intro a h
  have hpos : 0 < a.cols * a.rows := Nat.mul_pos a.cols_pos a.rows_pos
  have hle : a.cols * a.rows ≤ 96 * 64 := Nat.mul_le_mul (RenderArea.cols_le h) (RenderArea.rows_le h)
  have heq := a.byteLength_eq
  refine ⟨rfl, ?_, ?_, ?_, ?_⟩
  · rw [heq, Nat.mul_mod_right]
  · omega
  · omega
  · rw [RenderArea.byteLength_eq_max_iff h, RenderArea.eq_fullFrame_iff h]
end

section
/-! SUPPORT. How far the line engine is after `k` of its `n` steps (44_line_engine.md R181, R182): on an axis of extent
`d` it has gone the share `k / n` of `d`, rounded to the nearest place and at a tie upwards; `n` is the longer extent. -/

namespace Sys2Proof.Machine

/-- How many places of an axis of extent `d` the engine has gone after `k` of `n` steps. -/
def axisSteps (d n k : Int) : Int := (2 * k * d + n) / (2 * n)

variable {d e n k : Int}

theorem axisSteps_eq_iff {c : Int} (hn : 0 < n) :
    axisSteps d n k = c ↔ 2 * n * c ≤ 2 * k * d + n ∧ 2 * k * d + n < 2 * n * (c + 1) := by
  rw [axisSteps, Int.ediv_eq_iff_of_pos (by omega)]
  constructor <;> rintro ⟨h, h'⟩ <;> constructor <;> linarith

/-- The two bounds that pin the count. -/
theorem axisSteps_bounds (d k : Int) (hn : 0 < n) :
    2 * n * axisSteps d n k ≤ 2 * k * d + n ∧ 2 * k * d + n < 2 * n * (axisSteps d n k + 1) :=
  (axisSteps_eq_iff hn).mp rfl

/-- Along the longer extent every step counts. -/
theorem axisSteps_self (hn : 0 < n) (k : Int) : axisSteps n n k = k :=
  (axisSteps_eq_iff hn).mpr ⟨by linarith, by linarith⟩

@[simp] theorem axisSteps_zero_steps (d k : Int) : axisSteps d 0 k = 0 := Int.ediv_zero _

@[simp] theorem axisSteps_start (d : Int) (hn : 0 ≤ n) : axisSteps d n 0 = 0 := by
  rcases hn.eq_or_lt with rfl | hn
  · exact axisSteps_zero_steps d 0
  · exact (axisSteps_eq_iff hn).mpr ⟨by linarith, by linarith⟩

theorem axisSteps_last (hd : 0 ≤ d) (hdn : d ≤ n) : axisSteps d n n = d := by
  rcases (hd.trans hdn).eq_or_lt with rfl | hn
  · rw [axisSteps_zero_steps]; omega
  · exact (axisSteps_eq_iff hn).mpr ⟨by linarith, by linarith⟩

theorem axisSteps_mono {l f : Int} (hn : 0 ≤ n) (h : k * d ≤ l * f) : axisSteps d n k ≤ axisSteps f n l := by
  rcases hn.eq_or_lt with rfl | hn
  · simp
  · exact Int.ediv_le_ediv (by omega) (by linarith)

/-- The count never leaves the axis. -/
theorem axisSteps_mem (hd : 0 ≤ d) (hdn : d ≤ n) (hk : 0 ≤ k) (hkn : k ≤ n) :
    0 ≤ axisSteps d n k ∧ axisSteps d n k ≤ d := by
  have hn := hd.trans hdn
  exact ⟨(axisSteps_start d hn).ge.trans (axisSteps_mono hn (mul_le_mul_of_nonneg_right hk hd)),
    (axisSteps_mono hn (mul_le_mul_of_nonneg_right hkn hd)).trans (axisSteps_last hd hdn).le⟩

/-- The engine's test along an axis, in terms of the other axis's count too, decides whether the count goes up
(44 R182). -/
theorem axisSteps_succ (hd : 0 ≤ d) (hde : n = max d e) (hn : 0 < n) :
    axisSteps d n (k + 1) =
      if (2 * axisSteps d n k + 1) * e ≤ 2 * (axisSteps e n k + 1) * d then axisSteps d n k + 1
      else axisSteps d n k := by
  obtain ⟨ha, ha'⟩ := axisSteps_bounds d k hn
  obtain ⟨hb, hb'⟩ := axisSteps_bounds e k hn
  rcases max_choice d e with hm | hm <;> rw [hm] at hde
  · subst hde
    have hle : e ≤ n := max_eq_left_iff.mp hm
    rw [axisSteps_self hn, axisSteps_self hn, if_pos (by linarith)]
  · subst hde
    have hle : d ≤ n := max_eq_right_iff.mp hm
    rw [axisSteps_self hn]
    split
    · exact (axisSteps_eq_iff hn).mpr ⟨by linarith, by linarith⟩
    · exact (axisSteps_eq_iff hn).mpr ⟨by linarith, by linarith⟩

theorem axisSteps_succ_or (hd : 0 ≤ d) (hdn : d ≤ n) (k : Int) :
    axisSteps d n (k + 1) = axisSteps d n k ∨ axisSteps d n (k + 1) = axisSteps d n k + 1 := by
  rcases (hd.trans hdn).eq_or_lt with rfl | hn
  · simp
  · rw [axisSteps_succ hd (max_eq_right hdn).symm hn]
    split
    · exact .inr rfl
    · exact .inl rfl

/-- The step number is the longer of the two counts. -/
theorem max_axisSteps (hde : n = max d e) (hn : 0 < n) (hk : 0 ≤ k) :
    max (axisSteps d n k) (axisSteps e n k) = k := by
  rcases max_choice d e with hm | hm <;> rw [hm] at hde
  · subst hde
    have hle := axisSteps_mono hn.le (mul_le_mul_of_nonneg_left (max_eq_left_iff.mp hm) hk)
    rw [max_eq_left hle, axisSteps_self hn]
  · subst hde
    have hle := axisSteps_mono hn.le (mul_le_mul_of_nonneg_left (max_eq_right_iff.mp hm) hk)
    rw [max_eq_right hle, axisSteps_self hn]

/-- The two counts keep the ratio of the extents to within half a place of the longer one. -/
theorem axisSteps_balanced (hde : n = max d e) (hn : 0 < n) (k : Int) :
    -n ≤ 2 * (axisSteps e n k * d - axisSteps d n k * e) ∧ 2 * (axisSteps e n k * d - axisSteps d n k * e) ≤ n := by
  obtain ⟨ha, ha'⟩ := axisSteps_bounds d k hn
  obtain ⟨hb, hb'⟩ := axisSteps_bounds e k hn
  rcases max_choice d e with hm | hm <;> rw [hm] at hde
  · subst hde
    rw [axisSteps_self hn]
    constructor <;> linarith
  · subst hde
    rw [axisSteps_self hn]
    constructor <;> linarith

end Sys2Proof.Machine
end

section
/-! SUPPORT. The line engine's registers and points after `k` steps (44_line_engine.md R181 to R184). -/

namespace Sys2Proof.Machine

open Sys2Proof.Safety

/-- The number of steps of a line: its longer extent (44 R184). -/
def lineLength (x0 y0 x1 y1 : Int) : Nat := max (x1 - x0).natAbs (y1 - y0).natAbs

/-- Where a line of `n` steps from `u` to `v` is on one axis after `k` of them. -/
def axisPlace (u v : Int) (n k : Nat) : Int := u + (v - u).sign * axisSteps |v - u| n k

/-- The `k`-th point of a line. -/
def linePoint (x0 y0 x1 y1 : Int) (k : Nat) : Int × Int :=
  (axisPlace x0 x1 (lineLength x0 y0 x1 y1) k, axisPlace y0 y1 (lineLength x0 y0 x1 y1) k)

/-- The line engine after `k` steps of a line: it is on course with the counts of `axisSteps`. -/
def LineRegs.AtStep (x0 y0 x1 y1 : Int) (k : Nat) (r : LineRegs) : Prop :=
  r.OnCourse x0 y0 x1 y1 (axisSteps |x1 - x0| (lineLength x0 y0 x1 y1) k)
    (axisSteps |y1 - y0| (lineLength x0 y0 x1 y1) k)

variable {x0 y0 x1 y1 : Int} {r : LineRegs} {k : Nat}

theorem natCast_lineLength (x0 y0 x1 y1 : Int) : (lineLength x0 y0 x1 y1 : Int) = max |x1 - x0| |y1 - y0| := by
  rw [lineLength, Nat.cast_max, Int.natCast_natAbs, Int.natCast_natAbs]

theorem abs_le_lineLength (x0 y0 x1 y1 : Int) :
    |x1 - x0| ≤ lineLength x0 y0 x1 y1 ∧ |y1 - y0| ≤ lineLength x0 y0 x1 y1 := by
  rw [natCast_lineLength]
  exact ⟨le_max_left _ _, le_max_right _ _⟩

theorem lineLength_le (h0 : onPanel x0 y0 = true) (h1 : onPanel x1 y1 = true) : lineLength x0 y0 x1 y1 ≤ 95 := by
  have := onPanel_iff.mp h0
  have := onPanel_iff.mp h1
  rw [lineLength]; omega

section axis

variable {u v : Int} {n k : Nat}

@[simp] theorem axisPlace_start (u v : Int) (n : Nat) : axisPlace u v n 0 = u := by
  simp [axisPlace]

theorem axisPlace_last (h : |v - u| ≤ n) : axisPlace u v n n = v := by
  rw [axisPlace, axisSteps_last (abs_nonneg _) h, Int.sign_mul_abs, add_sub_cancel]

theorem axisSteps_abs_mem (h : |v - u| ≤ n) (hk : k ≤ n) :
    0 ≤ axisSteps |v - u| n k ∧ axisSteps |v - u| n k ≤ |v - u| :=
  axisSteps_mem (abs_nonneg _) h (by omega) (by omega)

theorem axisPlace_between (h : |v - u| ≤ n) (hk : k ≤ n) :
    min u v ≤ axisPlace u v n k ∧ axisPlace u v n k ≤ max u v := by
  obtain ⟨hc, hcd⟩ := axisSteps_abs_mem h hk
  exact between_of_sign hc hcd ⟨min_le_left u v, le_max_left u v⟩ ⟨min_le_right u v, le_max_right u v⟩

/-- The distance gone on an axis is its count of steps. -/
theorem natAbs_axisPlace_sub (h : |v - u| ≤ n) (hk : k ≤ n) :
    ((axisPlace u v n k - u).natAbs : Int) = axisSteps |v - u| n k := by
  obtain ⟨hc, hcd⟩ := axisSteps_abs_mem h hk
  rw [axisPlace, add_sub_cancel_left, Int.natAbs_mul, Int.natAbs_sign]
  split
  · next h0 => simp only [h0, abs_zero] at hc hcd ⊢; omega
  · omega

theorem axisPlace_succ_sub_eq (u v : Int) (n k : Nat) :
    axisPlace u v n (k + 1) - axisPlace u v n k =
      (v - u).sign * (axisSteps |v - u| n (k + 1) - axisSteps |v - u| n k) := by
  rw [axisPlace, axisPlace]; push_cast; ring

theorem natAbs_axisPlace_succ_sub_le (h : |v - u| ≤ n) (k : Nat) :
    (axisPlace u v n (k + 1) - axisPlace u v n k).natAbs ≤ 1 := by
  rw [axisPlace_succ_sub_eq, Int.natAbs_mul, Int.natAbs_sign]
  rcases axisSteps_succ_or (abs_nonneg _) h k with e | e <;> rw [e] <;> split <;> simp

theorem natAbs_axisPlace_succ_sub_of_longer (h : |v - u| = n) (hn : 0 < n) (k : Nat) :
    (axisPlace u v n (k + 1) - axisPlace u v n k).natAbs = 1 := by
  have h0 : v - u ≠ 0 := abs_pos.mp (by omega)
  rw [axisPlace_succ_sub_eq, Int.natAbs_mul, Int.natAbs_sign, if_neg h0, h, axisSteps_self (by omega),
    axisSteps_self (by omega)]
  omega

/-- An axis that no step or every step moves along is symmetric. -/
theorem axisPlace_reverse (h : |v - u| = 0 ∨ |v - u| = n) (hk : k ≤ n) :
    axisPlace v u n k = axisPlace u v n (n - k) := by
  by_cases huv : v - u = 0
  · obtain rfl := sub_eq_zero.mp huv
    simp [axisPlace]
  · have hpos : 0 < |v - u| := abs_pos.mpr huv
    have hn : |v - u| = n := h.resolve_left hpos.ne'
    have hs : (v - u).sign * n = v - u := hn ▸ Int.sign_mul_abs _
    rw [axisPlace, axisPlace, abs_sub_comm u v, hn, axisSteps_self (by omega), axisSteps_self (by omega),
      ← neg_sub v u, Int.sign_neg, Nat.cast_sub hk]
    linarith

end axis

theorem linePoint_of_atStep (h : r.AtStep x0 y0 x1 y1 k) : (r.x, r.y) = linePoint x0 y0 x1 y1 k :=
  Prod.ext h.x h.y

theorem atStep_setup (old : LineRegs) (x0 y0 x1 y1 : Int) :
    (LineRegs.setup old x0 y0 x1 y1).AtStep x0 y0 x1 y1 0 := by
  simpa [LineRegs.AtStep] using onCourse_setup old x0 y0 x1 y1

/-- The step number is the distance from the start, in the coordinate that is further away. -/
theorem linePoint_distance (hk : k ≤ lineLength x0 y0 x1 y1) :
    lineLength x0 y0 (linePoint x0 y0 x1 y1 k).1 (linePoint x0 y0 x1 y1 k).2 = k := by
  obtain ⟨hx, hy⟩ := abs_le_lineLength x0 y0 x1 y1
  rcases Nat.eq_zero_or_pos k with rfl | hpos
  · simp [lineLength, linePoint]
  · have hm := max_axisSteps (natCast_lineLength x0 y0 x1 y1) (by omega) (Int.natCast_nonneg k)
    rw [← natAbs_axisPlace_sub hx hk, ← natAbs_axisPlace_sub hy hk] at hm
    exact_mod_cast hm

@[simp] theorem linePoint_start (x0 y0 x1 y1 : Int) : linePoint x0 y0 x1 y1 0 = (x0, y0) := by
  simp [linePoint]

theorem lineLength_comm (x0 y0 x1 y1 : Int) : lineLength x0 y0 x1 y1 = lineLength x1 y1 x0 y0 := by
  rw [lineLength, lineLength]; omega

theorem linePoint_last (x0 y0 x1 y1 : Int) : linePoint x0 y0 x1 y1 (lineLength x0 y0 x1 y1) = (x1, y1) := by
  obtain ⟨hx, hy⟩ := abs_le_lineLength x0 y0 x1 y1
  rw [linePoint, axisPlace_last hx, axisPlace_last hy]

/-- The line between the same ends the other way, where each axis has no step or all steps (44 R187). -/
theorem linePoint_reverse (hs : y0 = y1 ∨ x0 = x1 ∨ (x1 - x0).natAbs = (y1 - y0).natAbs)
    (hk : k ≤ lineLength x0 y0 x1 y1) :
    linePoint x1 y1 x0 y0 k = linePoint x0 y0 x1 y1 (lineLength x0 y0 x1 y1 - k) := by
  have hN : lineLength x0 y0 x1 y1 = max (x1 - x0).natAbs (y1 - y0).natAbs := rfl
  rw [linePoint, linePoint, lineLength_comm x1 y1, axisPlace_reverse (by rw [Int.abs_eq_natAbs]; omega) hk,
    axisPlace_reverse (by rw [Int.abs_eq_natAbs]; omega) hk]

theorem atEnd_iff_of_atStep (h : r.AtStep x0 y0 x1 y1 k) (hk : k ≤ lineLength x0 y0 x1 y1) :
    r.atEnd = true ↔ k = lineLength x0 y0 x1 y1 := by
  have hp := linePoint_of_atStep h
  have he : r.atEnd = true ↔ linePoint x0 y0 x1 y1 k = (x1, y1) := by
    rw [← hp]; simp [LineRegs.atEnd, h.endX, h.endY]
  rw [he]
  constructor
  · intro e
    have hd := linePoint_distance hk
    rw [e] at hd
    exact hd.symm
  · rintro rfl
    exact linePoint_last x0 y0 x1 y1

section counts

variable {a b : Int}

/-- The first test of a step moves the column count (44 R182). -/
theorem onCourse_stepX_count (h : r.OnCourse x0 y0 x1 y1 a b) {a' : Int} (ha : a' = if r.dy ≤ r.e2 then a + 1 else a)
    (hle : a' ≤ |x1 - x0|) : r.stepX.OnCourse x0 y0 x1 y1 a' b := by
  by_cases ht : r.dy ≤ r.e2
  · rw [if_pos ht] at ha
    rw [LineRegs.stepX, if_pos ht]
    exact { h with
      x := by simp only [h.x, h.sx, ha]; ring
      err := by simp only [h.err, h.dy, ha]; ring
      a_nonneg := by have := h.a_nonneg; omega
      a_le := hle }
  · rw [if_neg ht] at ha
    rwa [LineRegs.stepX, if_neg ht, ha]

/-- The second test of a step moves the row count (44 R182). -/
theorem onCourse_stepY_count (h : r.OnCourse x0 y0 x1 y1 a b) {b' : Int} (hb : b' = if r.e2 ≤ r.dx then b + 1 else b)
    (hle : b' ≤ |y1 - y0|) : r.stepY.OnCourse x0 y0 x1 y1 a b' := by
  by_cases ht : r.e2 ≤ r.dx
  · rw [if_pos ht] at hb
    rw [LineRegs.stepY, if_pos ht]
    exact { h with
      y := by simp only [h.y, h.sy, hb]; ring
      err := by simp only [h.err, h.dx, hb]; ring
      b_nonneg := by have := h.b_nonneg; omega
      b_le := hle }
  · rw [if_neg ht] at hb
    rwa [LineRegs.stepY, if_neg ht, hb]

@[simp] theorem stepY_e2 (r : LineRegs) : r.stepY.e2 = r.e2 := by unfold LineRegs.stepY; split <;> rfl

@[simp] theorem step_e2 (r : LineRegs) : r.step.e2 = 2 * r.err := by simp [LineRegs.step]

end counts

/-- A step before the last one leads to the next counts (44 R182). -/
theorem atStep_step (h : r.AtStep x0 y0 x1 y1 k) (hk : k < lineLength x0 y0 x1 y1) :
    r.step.AtStep x0 y0 x1 y1 (k + 1) := by
  obtain ⟨hx, hy⟩ := abs_le_lineLength x0 y0 x1 y1
  have hm := natCast_lineLength x0 y0 x1 y1
  have hpos : (0 : Int) < lineLength x0 y0 x1 y1 := by omega
  have ha := axisSteps_succ (k := k) (abs_nonneg (x1 - x0)) hm hpos
  have hb := axisSteps_succ (k := k) (abs_nonneg (y1 - y0)) (hm.trans (max_comm _ _)) hpos
  have h' : LineRegs.AtStep x0 y0 x1 y1 k { r with e2 := 2 * r.err } := { h with }
  have hX := onCourse_stepX_count h' (a' := axisSteps |x1 - x0| (lineLength x0 y0 x1 y1) ↑(k + 1))
    (by
      push_cast
      rw [ha]
      congr 1
      simp only [h.dy, h.err, eq_iff_iff]
      constructor <;> intro _ <;> linarith)
    (axisSteps_abs_mem hx hk).2
  exact onCourse_stepY_count hX
    (by
      push_cast
      rw [hb]
      congr 1
      rw [stepX_e2, hX.dx]
      simp only [h.err, eq_iff_iff]
      constructor <;> intro _ <;> linarith)
    (axisSteps_abs_mem hy hk).2

/-- From its `k`-th step on the loop plots the points still to come, if it has a round for each. -/
theorem points_eq (n k j : Nat) (h : r.AtStep x0 y0 x1 y1 k) (hkj : k + j = lineLength x0 y0 x1 y1) (hj : j < n) :
    LineRegs.points n r = (List.range' k (j + 1)).map (linePoint x0 y0 x1 y1) := by
  induction n generalizing k j r with
  | zero => omega
  | succ n ih =>
    have hend := atEnd_iff_of_atStep h (by omega)
    rw [LineRegs.points, linePoint_of_atStep h, List.range'_succ, List.map_cons]
    cases j with
    | zero => rw [if_pos (hend.mpr hkj)]; rfl
    | succ j => rw [if_neg (by rw [hend]; omega), ih (k + 1) j (atStep_step h (by omega)) (by omega) (by omega)]

/-- The points of a line, in order, in closed form (44 R184). -/
theorem linePoints_eq (h : lineLength x0 y0 x1 y1 < lineFuel) :
    linePoints x0 y0 x1 y1 = (List.range (lineLength x0 y0 x1 y1 + 1)).map (linePoint x0 y0 x1 y1) := by
  rw [linePoints, points_eq lineFuel 0 _ (atStep_setup _ x0 y0 x1 y1) (Nat.zero_add _) h, List.range_eq_range']

theorem linePoints_eq_of_onPanel (h0 : onPanel x0 y0 = true) (h1 : onPanel x1 y1 = true) :
    linePoints x0 y0 x1 y1 = (List.range (lineLength x0 y0 x1 y1 + 1)).map (linePoint x0 y0 x1 y1) :=
  linePoints_eq ((lineLength_le h0 h1).trans_lt (by decide))

/-- What holds of the first registers and is kept by every step before the end holds of all that follow (44 R183). -/
theorem lineStates_induction {P : LineRegs → Prop} (hs : ∀ q, P q → q.atEnd = false → P q.step) (n : Nat)
    (h : P r) : ∀ q ∈ lineStates n r, P q := by
  induction n generalizing r with
  | zero => simp [lineStates]
  | succ n ih =>
    rw [lineStates, List.forall_mem_cons]
    refine ⟨h, ?_⟩
    cases he : r.atEnd with
    | true => simp
    | false => simpa using ih (hs r h he)

theorem abs_sub_le_of_onPanel (h0 : onPanel x0 y0 = true) (h1 : onPanel x1 y1 = true) :
    |x1 - x0| ≤ 95 ∧ |y1 - y0| ≤ 63 := by
  have := onPanel_iff.mp h0
  have := onPanel_iff.mp h1
  constructor <;> rw [abs_le] <;> constructor <;> omega

/-- The error term is its first value `dx + dy` and how far the two counts are off the ratio of the extents. -/
theorem err_eq_of_onCourse {a b : Int} (h : r.OnCourse x0 y0 x1 y1 a b) :
    r.err = |x1 - x0| - |y1 - y0| + (b * |x1 - x0| - a * |y1 - y0|) := by
  rw [h.err]; ring

/-- The error term's range over all legal end points (44 R190): it differs from `dx + dy` by at most half the longer
extent, and not at all on a line along one axis. -/
theorem err_range_of_atStep (h : r.AtStep x0 y0 x1 y1 k) (h0 : onPanel x0 y0 = true) (h1 : onPanel x1 y1 = true) :
    -93 ≤ r.err ∧ r.err ≤ 141 := by
  obtain ⟨hdx, hdy⟩ := abs_sub_le_of_onPanel h0 h1
  have hm := natCast_lineLength x0 y0 x1 y1
  have herr : r.err = |x1 - x0| - |y1 - y0| + _ := err_eq_of_onCourse h
  have ha := h.a_nonneg
  have ha' := h.a_le
  have hb := h.b_nonneg
  have hb' := h.b_le
  rcases (abs_nonneg (x1 - x0)).eq_or_lt with hx | hx
  · have h0' : axisSteps |x1 - x0| (lineLength x0 y0 x1 y1) k = 0 := by omega
    rw [h0', ← hx] at herr
    omega
  rcases (abs_nonneg (y1 - y0)).eq_or_lt with hy | hy
  · have h0' : axisSteps |y1 - y0| (lineLength x0 y0 x1 y1) k = 0 := by omega
    rw [h0', ← hy] at herr
    omega
  obtain ⟨hlo, hhi⟩ := axisSteps_balanced hm (by omega) k
  omega

/-- The registers have the spec's ranges after some number of steps, `e2` among them (44 R190). -/
def LineRegs.FitsAtStep (x0 y0 x1 y1 : Int) (r : LineRegs) : Prop :=
  (∃ k ≤ lineLength x0 y0 x1 y1, r.AtStep x0 y0 x1 y1 k) ∧ -186 ≤ r.e2 ∧ r.e2 ≤ 282

theorem fitsAtStep_step (h0 : onPanel x0 y0 = true) (h1 : onPanel x1 y1 = true) (h : r.FitsAtStep x0 y0 x1 y1)
    (he : r.atEnd = false) : r.step.FitsAtStep x0 y0 x1 y1 := by
  obtain ⟨⟨k, hk, hr⟩, -⟩ := h
  have hne : k ≠ lineLength x0 y0 x1 y1 := fun e => by simp [(atEnd_iff_of_atStep hr hk).mpr e] at he
  have hlt := lt_of_le_of_ne hk hne
  obtain ⟨hlo, hhi⟩ := err_range_of_atStep hr h0 h1
  refine ⟨⟨k + 1, hlt, atStep_step hr hlt⟩, ?_⟩
  rw [step_e2]
  omega

end Sys2Proof.Machine
end

section
/-! SUPPORT. What LINE of a live block answers (44_line_engine.md R180, R188). -/

namespace Sys2Proof.Machine

open Sys2Proof.Safety

variable {x0 y0 x1 y1 : Half} {s : State}

/-- LINE between two points of the panel completes with its points written; its registers are released. -/
theorem exec_line_on (c : Color) (hl : s.halted = false) (h0 : onPanel (coord x0) (coord y0) = true)
    (h1 : onPanel (coord x1) (coord y1) = true) :
    exec (.line x0 y0 x1 y1 c) s = .next (complete
      (writeAll (pointWrites c (linePoints (coord x0) (coord y0) (coord x1) (coord y1))) (start s))) := by
  obtain ⟨q, e⟩ := lineBody_eq c (s := start s) hl h0 h1
  have hb : (lineBody (coord x0) (coord y0) (coord x1) (coord y1) c (start s)).halted = false := by
    rw [e, setLine_halted, writeAll_halted, start_halted, hl]
  rw [exec, execLine, request_completes hl hb, e]
  rfl

/-- LINE with an end point off the panel raises at once. -/
theorem exec_line_off (c : Color) (hl : s.halted = false)
    (h : (onPanel (coord x0) (coord y0) && onPanel (coord x1) (coord y1)) = false) :
    exec (.line x0 y0 x1 y1 c) s = .next (raise .coord (start s)) := by
  have hb := lineBody_off c (start s) h
  rw [exec, execLine, request_faults hl (by rw [hb, raise_halted]), hb]

theorem mem_pointWrites {c : Color} {ps : List (Int × Int)} {w : Nat × Color} :
    w ∈ pointWrites c ps ↔ ∃ p ∈ ps, (pixelIndex p.1.toNat p.2.toNat, c) = w := List.mem_map

/-- A request that only writes words has drawn. -/
theorem drawnAs_complete_writeAll (ws : List (Nat × Color)) (s : State) :
    drawnAs s (complete (writeAll ws (start s))) 0 [] := by
  rw [writeAll_eq]
  simp [complete, release, ended, start, Lines.afterAll, linesOf]

/-- A request that raises at once has changed nothing but the fault. -/
theorem faultedAs_raise_start (k : FaultKind) (s : State) : faultedAs s (raise k (start s)) k 0 [] := by
  simp [raise, release, ended, start, Lines.afterAll, linesOf]

end Sys2Proof.Machine
end

section
/-! The statements about the line engine (44_line_engine.md). -/

open Sys2Proof Sys2Proof.Machine Sys2Proof.Safety

/-- Settles O32: LINE is the word writes of its points, or the fault. -/
theorem lineColoursExactlyItsPoints : Obligations.LineColoursExactlyItsPoints := by
  intro s x0 y0 x1 y1 color hl ps
  by_cases hon : onPanel (coord x0) (coord y0) ∧ onPanel (coord x1) (coord y1)
  · obtain ⟨h0, h1⟩ := hon
    simp only [h0, h1, and_self, if_true]
    refine ⟨_, exec_line_on color hl h0 h1, drawnAs_complete_writeAll _ s, fun p hp => ?_, fun a ha => ?_⟩
    · refine fbWord_writeAll_mem _ _ (mem_pointWrites.mpr ⟨p, hp, rfl⟩) fun w hw _ => ?_
      obtain ⟨_, -, rfl⟩ := mem_pointWrites.mp hw
      rfl
    · refine fbByte_writeAll_other _ (start s) fun w hw => ?_
      obtain ⟨p, hp, rfl⟩ := mem_pointWrites.mp hw
      exact ha p hp
  · simp only [if_neg hon]
    exact ⟨_, exec_line_off color hl (by simpa using hon), faultedAs_raise_start .coord s⟩

/-- Settles O33: the points are `linePoint` of 0 to the longer extent, and each is as far from the start as its number
says. -/
theorem linePointsGuarantee : Obligations.LinePointsGuarantee := by
  intro x0 y0 x1 y1 h0 h1 ps
  obtain ⟨hx, hy⟩ := abs_le_lineLength x0 y0 x1 y1
  have hps : ps = _ := linePoints_eq_of_onPanel h0 h1
  rw [hps]
  refine ⟨by simp [lineLength], ?distinct, ?head, ?last, ?neighbours, ?box⟩
  case distinct =>
    refine List.Nodup.map_on (fun k hk l hl e => ?_) List.nodup_range
    rw [List.mem_range, Nat.lt_succ_iff] at hk hl
    rw [← linePoint_distance hk, ← linePoint_distance hl, e]
  case head => simp [List.range_succ_eq_map]
  case last => simp [List.range_succ, linePoint_last]
  case neighbours =>
    rw [List.isChain_map, List.isChain_range_succ]
    intro k hk
    have hpos := Nat.zero_lt_of_lt hk
    refine ⟨natAbs_axisPlace_succ_sub_le hx k, natAbs_axisPlace_succ_sub_le hy k, fun hl => ?_, fun hl => ?_⟩
    · exact natAbs_axisPlace_succ_sub_of_longer (by rw [Int.abs_eq_natAbs, lineLength, max_eq_left hl]) hpos k
    · exact natAbs_axisPlace_succ_sub_of_longer (by rw [Int.abs_eq_natAbs, lineLength, max_eq_right hl]) hpos k
  case box =>
    simp only [List.forall_mem_map, List.mem_range, Nat.lt_succ_iff]
    intro k hk
    exact and_assoc.mp ⟨axisPlace_between hx hk, axisPlace_between hy hk⟩

/-- Settles O34: every step keeps the counts of `axisSteps`, and these bound the registers. -/
theorem lineRegistersKeepTheirRanges : Obligations.LineRegistersKeepTheirRanges := by
  intro x0 y0 x1 y1 h0 h1 r hr
  have hfirst : LineRegs.FitsAtStep x0 y0 x1 y1 (LineRegs.setup LineRegs.reset x0 y0 x1 y1) :=
    ⟨⟨0, Nat.zero_le _, atStep_setup _ x0 y0 x1 y1⟩, by simp [LineRegs.setup, LineRegs.reset]⟩
  obtain ⟨⟨k, -, h⟩, he2⟩ :=
    lineStates_induction (fun q hq he => fitsAtStep_step h0 h1 hq he) lineFuel hfirst r hr
  obtain ⟨hdx, hdy⟩ := abs_sub_le_of_onPanel h0 h1
  obtain ⟨hx, hx', hy, hy'⟩ := onPanel_iff.mp (onPanel_of_onCourse h h0 h1)
  obtain ⟨herr, herr'⟩ := err_range_of_atStep h h0 h1
  have hdx0 := abs_nonneg (x1 - x0)
  have hdy0 := abs_nonneg (y1 - y0)
  rw [h.dx, h.dy]
  omega

/-- Settles O55: a straight line moves along each axis at no step or at every step. -/
theorem straightLinesPlotTheSameBothWays : Obligations.StraightLinesPlotTheSameBothWays := by
  refine ⟨⟨by decide, by decide⟩, fun x0 y0 x1 y1 h0 h1 hs => ?_⟩
  rw [linePoints_eq_of_onPanel h0 h1, linePoints_eq_of_onPanel h1 h0, lineLength_comm x1 y1 x0 y0, ← List.map_reverse,
    List.range_eq_range', List.reverse_range', List.map_map, ← List.range_eq_range']
  refine List.map_congr_left fun k hk => ?_
  rw [linePoint_reverse hs (Nat.lt_succ_iff.mp (List.mem_range.mp hk)), Function.comp_apply, Nat.zero_add,
    Nat.add_sub_cancel]

/-- Settles O35: a line of length 0 has the start as its only point. -/
theorem degenerateLineIsOnePoint : Obligations.DegenerateLineIsOnePoint := by
  intro x y
  have hn : lineLength x y x y = 0 := by simp [lineLength]
  rw [linePoints_eq (by rw [hn]; decide), hn]
  simp
end

section
/-! SUPPORT. Which words CHAR and STRING write, and what they answer where nothing is drawn (45_glyph_blitter.md R200 to
R208). -/

namespace Sys2Proof.Machine

open Sys2Proof.Safety

theorem glyphNumber_lt (ch : Byte) : glyphNumber ch < 39 := by
  unfold glyphNumber
  dsimp only
  split_ifs <;> omega

/-- The index is the glyph's number, with nothing lost (45 R200). -/
theorem charToGlyphIndex_val (ch : Byte) : (charToGlyphIndex ch).val = glyphNumber ch :=
  Nat.mod_eq_of_lt (glyphNumber_lt ch)

theorem upperCase_of_lower {ch : Byte} (h : 0x61 ≤ ch.toNat ∧ ch.toNat ≤ 0x7A) : upperCase ch = ch.toNat - 0x20 :=
  if_pos h

theorem upperCase_of_not_lower {ch : Byte} (h : ¬ (0x61 ≤ ch.toNat ∧ ch.toNat ≤ 0x7A)) : upperCase ch = ch.toNat :=
  if_neg h

/-- The blitter's registers are released at a request's end. -/
@[simp] theorem complete_setBlit (b : BlitRegs) (s : State) : complete (setBlit b s) = complete s := rfl

/-- The words of character `k` of a string that starts at a column of the panel, over the numbers (45 R206). -/
theorem cellIndex_advance {x : Int} (hx : 0 ≤ x) (y : Int) (k : Nat) (p : Fin 8 × Fin 8) :
    cellIndex (x + 8 * k) y p = pixelIndex (x.toNat + 8 * k + p.2) (y.toNat + p.1) := by
  rw [cellIndex, show (x + 8 * k).toNat = x.toNat + 8 * k by omega]

/-- The cells of two characters that fit share no word: they are 8 columns apart (45 R206). -/
theorem cellIndex_advance_inj {x y : Int} {k l : Nat} {p q : Fin 8 × Fin 8} (hk : cellFits (x + 8 * k) y = true)
    (hl : cellFits (x + 8 * l) y = true) (e : cellIndex (x + 8 * k) y p = cellIndex (x + 8 * l) y q) :
    k = l ∧ p = q := by
  have hkl : k = l := by
    rw [← cellPixel_index hk p, ← cellPixel_index hl q] at e
    have := pixelIndex_inj (cellPixel_onPanel hk p) (cellPixel_onPanel hl q) e
    omega
  subst hkl
  exact ⟨rfl, cellIndex_inj hk e⟩

/-- A string writes the words of the cells that fit, character `k` at `8 k` columns from the origin (45 R206, R207). -/
theorem mem_fontText {f : Font} {y : Int} {color : Color} {cx : Int} {text : List Byte} {w : Nat × Color} :
    w ∈ f.text y color cx text ↔ ∃ (k : Nat) (h : k < text.length) (p : Fin 8 × Fin 8),
      cellFits (cx + 8 * k) y = true ∧
        (cellIndex (cx + 8 * k) y p, f.color (charToGlyphIndex text[k]) color p) = w := by
  induction text generalizing cx with
  | nil => simp [Font.text]
  | cons ch text ih =>
    have hnext (k : Nat) : cx + 8 + 8 * (k : Int) = cx + 8 * ((k + 1 : Nat) : Int) := by omega
    rw [Font.text, List.mem_append, ih]
    constructor
    · rintro (h | ⟨k, hk, p, hf, rfl⟩)
      · split at h
        · next hf =>
          obtain ⟨p, -, rfl⟩ := mem_fontCell.mp h
          exact ⟨0, Nat.zero_lt_succ _, p, by simpa using hf, by simp⟩
        · cases h
      · rw [hnext] at hf ⊢
        exact ⟨k + 1, Nat.succ_lt_succ hk, p, hf, rfl⟩
    · rintro ⟨_ | k, hk, p, hf, rfl⟩
      · have h0 : cx + 8 * ((0 : Nat) : Int) = cx := by simp
        rw [h0] at hf ⊢
        rw [if_pos hf]
        exact .inl (mem_fontCell.mpr ⟨p, mem_cellPositions p, rfl⟩)
      · rw [← hnext] at hf ⊢
        exact .inr ⟨k, Nat.lt_of_succ_lt_succ hk, p, hf, rfl⟩

/-- Every pixel of a string's cell that fits has its glyph's colour: no other character writes it (45 R205, R206). -/
theorem fbWord_writeAll_text (f : Font) {x y : Int} (color : Color) {text : List Byte} (s : State) {k : Nat}
    (hk : k < text.length) (hf : cellFits (x + 8 * k) y = true) (p : Fin 8 × Fin 8) :
    (writeAll (f.text y color x text) s).fbWord (cellIndex (x + 8 * k) y p) =
      f.color (charToGlyphIndex text[k]) color p := by
  refine fbWord_writeAll_mem _ s (mem_fontText.mpr ⟨k, hk, p, hf, rfl⟩) fun w hw hi => ?_
  obtain ⟨l, hl, q, hfl, rfl⟩ := mem_fontText.mp hw
  obtain ⟨rfl, rfl⟩ := cellIndex_advance_inj hfl hf hi
  rfl

@[simp] theorem start_font (s : State) : (start s).font = s.font := rfl

variable {x y : Half} {s : State}

/-- STRING of a live block at an origin that fits completes with its characters' words written (45 R206, R207). -/
theorem exec_string_fits (color : Color) (text : List Byte) (hl : s.halted = false)
    (hf : cellFits (coord x) (coord y) = true) :
    exec (.string x y color text) s =
      .next (complete (writeAll (s.font.text (coord y) color (coord x) text) (start s))) := by
  obtain ⟨b, e⟩ :=
    stringLoop_eq (coord y) color text (s := setBlit { s.blit with k := 0, cx := coord x } (start s)) hl
  rw [writeAll_setBlit, setBlit_setBlit] at e
  have hb : stringBody (coord x) (coord y) color text (start s) =
      setBlit b (writeAll (s.font.text (coord y) color (coord x) text) (start s)) := by
    rw [stringBody, if_pos hf]
    exact e
  rw [exec, execString, request_completes hl (by rw [hb, setBlit_halted, writeAll_halted, start_halted, hl]), hb,
    complete_setBlit]

/-- CHAR of a live block at an origin that does not fit completes at once (45 R204). -/
theorem exec_char_clip (ch : Byte) (color : Color) (hl : s.halted = false)
    (hf : cellFits (coord x) (coord y) = false) : exec (.char x y ch color) s = .next (complete (start s)) := by
  have hb : charBody (coord x) (coord y) ch color (start s) = start s := charBlit_clip _ _ _ _ _ hf
  rw [exec, execChar, request_completes hl (by rw [hb, start_halted, hl]), hb]

/-- STRING of a live block at an origin that does not fit completes at once (45 R206). -/
theorem exec_string_clip (color : Color) (text : List Byte) (hl : s.halted = false)
    (hf : cellFits (coord x) (coord y) = false) : exec (.string x y color text) s = .next (complete (start s)) := by
  have hb : stringBody (coord x) (coord y) color text (start s) = start s := by simp [stringBody, hf]
  rw [exec, execString, request_completes hl (by rw [hb, start_halted, hl]), hb]

/-- CHAR of a live block is the STRING of its one character (45 R203, R206). -/
theorem exec_char_eq_string (ch : Byte) (color : Color) (hl : s.halted = false) :
    exec (.char x y ch color) s = exec (.string x y color [ch]) s := by
  cases hf : cellFits (coord x) (coord y) with
  | true =>
    obtain ⟨b, -, -, e⟩ := charBlit_eq (coord x) (coord y) ch color (s := start s) hl hf
    have ht : s.font.text (coord y) color (coord x) [ch] =
        (start s).font.cell (coord x) (coord y) (charToGlyphIndex ch) color cellPositions := by
      rw [Font.text, if_pos hf, Font.text, List.append_nil, start_font]
    rw [exec_char_fits ch color hl hf, exec_string_fits color [ch] hl hf, e, complete_setBlit, ht]
  | false => rw [exec_char_clip ch color hl hf, exec_string_clip color [ch] hl hf]

/-- A request that does nothing changes RQI alone. -/
theorem completedAs_complete_start (s : State) : completedAs s (complete (start s)) 0 [] :=
  drawnAs_complete_writeAll [] s

end Sys2Proof.Machine
end

section
/-! The statements about the glyph blitter (45_glyph_blitter.md). -/

open Sys2Proof Sys2Proof.Machine Sys2Proof.Safety

/-- Settles O38: both requests end as they begin, but for RQI. -/
theorem silentClipChangesNothing : Obligations.SilentClipChangesNothing := by
  intro s x y ch color text hl hn
  have hf : cellFits (coord x) (coord y) = false := by rwa [← Bool.not_eq_true, cellFits_iff]
  have ht := completedAs_complete_start s
  exact ⟨⟨_, exec_char_clip ch color hl hf, ht⟩, ⟨_, exec_string_clip color text hl hf, ht⟩⟩

/-- Settles O39: STRING is the word writes of the cells that fit; the rows fit since the origin does. -/
theorem stringDrawsTheCharactersThatFit : Obligations.StringDrawsTheCharactersThatFit := by
  intro s x y color text hl hx hx' hy hy'
  have hf : cellFits (coord x) (coord y) = true := cellFits_iff.mpr ⟨hx, hx', hy, hy'⟩
  refine ⟨_, exec_string_fits color text hl hf, drawnAs_complete_writeAll _ s, fun k hk hkx row col => ?_,
    fun a ha => ?_⟩
  · have hfk : cellFits (coord x + 8 * k) (coord y) = true := cellFits_iff.mpr ⟨by omega, hkx, hy, hy'⟩
    rw [← cellIndex_advance hx (coord y) k (row, col)]
    exact fbWord_writeAll_text s.font color (start s) hk hfk (row, col)
  · refine fbByte_writeAll_other _ (start s) fun w hw => ?_
    obtain ⟨k, hk, p, hfk, rfl⟩ := mem_fontText.mp hw
    obtain ⟨-, hkx, -, -⟩ := cellFits_iff.mp hfk
    rw [cellIndex_advance hx]
    exact ha k hk hkx p.1 p.2

/-- Settles O37: CHAR is the STRING of one character, whose cell is the one at the origin. -/
theorem charDrawsItsWholeCell : Obligations.CharDrawsItsWholeCell := by
  intro s x y ch color hl hx hx' hy hy'
  obtain ⟨t, ht, hdrawn, hcell, hframe⟩ := stringDrawsTheCharactersThatFit s x y color [ch] hl hx hx' hy hy'
  refine ⟨t, (exec_char_eq_string ch color hl).trans ht, hdrawn, hcell 0 Nat.one_pos (by omega), fun a ha => ?_⟩
  refine hframe a fun k hk _ => ?_
  obtain rfl := Nat.lt_one_iff.mp hk
  exact ha

/-- Settles O36: a lower-case letter has the number of its upper-case letter, every other code its own. -/
theorem characterMap : Obligations.CharacterMap := by
  intro ch
  rw [charToGlyphIndex_val, glyphNumber]
  by_cases h : 0x61 ≤ ch.toNat ∧ ch.toNat ≤ 0x7A
  · rw [upperCase_of_lower h, if_pos (by omega), if_neg (by omega), if_pos h]
    omega
  · rw [upperCase_of_not_lower h, if_neg h]
    exact if_ctx_congr Iff.rfl (fun _ => by omega) fun _ => rfl
end

section
/-! SUPPORT. What a bus-using request of a live block answers, from the outcome of its body: the body's yield is the
request's answer (46_display_controller.md R230 to R234, R237). -/

namespace Sys2Proof.Machine

open Sys2Proof.Safety

variable {s : State} {k : FaultKind} {body : State → State} {e : Effect}

/-- A request whose body leaves bus events behind completes with these events. -/
theorem completedAs_request {es : List Event} {n : Nat} (hl : s.halted = false)
    (h : Yields body (s.busEffect es n .completes) (start s)) : completedAs s (request body s) n es := by
  rw [request_of_yields hl h]
  rfl

/-- A request whose body raises after bus events ends in the fault with these events. -/
theorem faultedAs_request {es : List Event} {n : Nat} (hl : s.halted = false)
    (h : Yields body (s.busEffect es n (.faults k)) (start s)) : faultedAs s (request body s) k n es := by
  rw [request_of_yields hl h]
  rfl

/-- A request whose body raises at once has no event. -/
theorem faultedAs_request_raise (hl : s.halted = false) (h : body (start s) = raise k (start s)) :
    faultedAs s (request body s) k 0 [] :=
  faultedAs_request hl (yields_raise (s := start s) (u := (start s).unread) h)

/-- Before Ready a request that tests RSTATE raises before any event (46 R237). -/
theorem faultedAs_request_early (hl : s.halted = false) (hr : s.rstate ≠ .ready) :
    faultedAs s (request (requireReady body) s) .order 0 [] :=
  faultedAs_request_raise hl (requireReady_early hr)

/-- In Ready a body that tests RSTATE yields what the rest of it yields (46 R237). -/
theorem yields_requireReady (hr : s.rstate = .ready) (h : Yields body e s) : Yields (requireReady body) e s := by
  rw [Yields, requireReady_ready hr]
  exact h

/-- A failed command byte leaves CS asserted and DC in command-mode, whatever came before (60 R268). -/
theorem afterAll_failedCommandEvents (l : Lines) (es : List Event) (b : Byte) :
    (l.afterAll (es ++ failedCommandEvents b)).cs = .asserted ∧
      (l.afterAll (es ++ failedCommandEvents b)).dc = .command := by
  rw [afterAll_append]
  exact ⟨rfl, rfl⟩

/-- A failed burst leaves CS asserted and DC in data-mode, whatever came before (60 R268). -/
theorem afterAll_failedBurstEvents (l : Lines) (es : List Event) (bs : List Byte) :
    (l.afterAll (es ++ failedBurstEvents bs)).cs = .asserted ∧
      (l.afterAll (es ++ failedBurstEvents bs)).dc = .data := by
  rw [afterAll_append]
  exact ⟨rfl, rfl⟩

theorem yields_sendSequence_ok (k : FaultKind) (bs : List Byte) (hl : s.halted = false) (h : txAllOk s bs.length) :
    Yields (sendSequence k bs) (s.busEffect (sequenceEvents bs) bs.length .completes) s := by
  have hs := (sendSequence_ok k bs hl h).trans (afterSequence_eq_moved bs s .completes)
  exact .inl ⟨rfl, by rw [hs]; exact hl, congrArg release hs⟩

theorem yields_sendSequence_fail (k : FaultKind) (bs : List Byte) (j : Nat) (hj : j < bs.length)
    (hl : s.halted = false) (h : txFailsAt s j) :
    Yields (sendSequence k bs)
      (s.busEffect (sequenceEvents (bs.take j) ++ failedCommandEvents bs[j]) (j + 1) (.faults k)) s :=
  .inr ⟨k, rfl, (sendSequence_fail k bs j hj hl h).trans (sequenceFailure_eq_moved k bs j hj s)⟩

/-- A request whose body is a command sequence completes with the sequence's events. -/
theorem completedAs_request_sequence {bs : List Byte} (hl : s.halted = false)
    (hb : body (start s) = sendSequence k bs (start s)) (h : txAllOk s bs.length) :
    completedAs s (request body s) bs.length (sequenceEvents bs) := by
  refine completedAs_request hl ?_
  rw [Yields, hb]
  exact yields_sendSequence_ok k bs (s := start s) hl h

/-- A request whose body is a command sequence ends in the fault of the first byte that fails. -/
theorem faultedAs_request_sequence {bs : List Byte} (j : Nat) (hj : j < bs.length) (hl : s.halted = false)
    (hb : body (start s) = sendSequence k bs (start s)) (h : txFailsAt s j) :
    faultedAs s (request body s) k (j + 1) (sequenceEvents (bs.take j) ++ failedCommandEvents bs[j]) := by
  refine faultedAs_request hl ?_
  rw [Yields, hb]
  exact yields_sendSequence_fail k bs j (s := start s) hj hl h

variable {a : RenderArea}

/-- A valid area whose window and burst are sent (46 R231). -/
theorem yields_renderRegion_ok (ha : a.valid = true) (hl : s.halted = false) (h : txAllOk s 7) :
    Yields (renderRegion a) (s.busEffect
      (sequenceEvents (addressWindow s.cfg.ops a) ++ burstEvents (s.regionBytes a)) 7 .completes) s := by
  refine .inl ⟨rfl, ?_⟩
  rw [renderRegion_ok ha hl h]
  refine ⟨hl, ?_⟩
  simp [afterBurst, endCounters, afterSequence, latchArea, Effect.moved, State.busEffect, afterAll_burst, release,
    linesOf, addressWindow]

/-- A valid area whose window byte `j` fails (46 R231, 60 R262). -/
theorem yields_renderRegion_commandFail (j : Nat) (ha : a.valid = true)
    (hj : j < (addressWindow s.cfg.ops a).length) (hl : s.halted = false) (h : txFailsAt s j) :
    Yields (renderRegion a) (s.busEffect (sequenceEvents ((addressWindow s.cfg.ops a).take j) ++
      failedCommandEvents (addressWindow s.cfg.ops a)[j]) (j + 1) (.faults .command)) s :=
  .inr ⟨.command, rfl, (renderRegion_commandFail j ha hj hl h).trans (sequenceFailure_eq_moved .command _ j hj s)⟩

/-- A valid area whose burst fails (46 R231, 60 R262). -/
theorem yields_renderRegion_burstFail (ha : a.valid = true) (hl : s.halted = false) (h : txFailsAt s 6) :
    Yields (renderRegion a) (s.busEffect
      (sequenceEvents (addressWindow s.cfg.ops a) ++ failedBurstEvents (s.regionBytes a)) 7 (.faults .burst)) s := by
  refine .inr ⟨.burst, rfl, ?_⟩
  rw [renderRegion_burstFail ha hl h]
  simp [burstFailure, endCounters, afterSequence, latchArea, Effect.moved, State.busEffect, afterAll_burst, raise,
    release, linesOf]

/-- The bus-using requests test RSTATE before anything else (46 R237). -/
theorem exec_of_needsReady {i : Instr} (h : needsReady i = true) (s : State) :
    ∃ rest, exec i s = .next (request (requireReady rest) s) := by
  cases i with
  | clear | render | scroll | invert | renderAll | clearRgb => exact ⟨_, rfl⟩
  | _ => exact absurd h Bool.false_ne_true

/-- RENDER and RENDERALL run the body of their area (30 R96). -/
theorem exec_of_rendersArea {i : Instr} (h : rendersArea i a) (s : State) :
    exec i s = .next (request (renderBody a) s) := by
  rcases h with rfl | ⟨rfl, rfl⟩ <;> rfl

/-- CLEAR and CLEARRGB run the body of their colour (30 R96). -/
theorem exec_of_clearsTo {i : Instr} {color : Color} (h : clearsTo i color) (s : State) :
    exec i s = .next (request (clearBody color) s) := by
  rcases h with rfl | ⟨r, g, b, rfl, rfl⟩ <;> rfl

/-- SCROLL in Ready is one sequence, the setup and the switch (46 R233). -/
theorem scrollBody_ready (hOffset v interval : Byte) (enable : Bool) (hl : s.halted = false)
    (hr : s.rstate = .ready) : scrollBody hOffset v interval enable s =
      sendSequence .command (scrollSetupBytes s.cfg hOffset v interval ++ [scrollSwitch s.cfg enable]) s := by
  rw [scrollBody, requireReady_ready hr, sendSequence_snoc _ _ _ hl]

/-- INVERT in Ready is a sequence of one byte (46 R234). -/
theorem invertBody_ready (on : Bool) (hl : s.halted = false) (hr : s.rstate = .ready) :
    invertBody on s = sendSequence .command [invertByte s.cfg on] s := by
  rw [invertBody, requireReady_ready hr, sendSequence_singleton _ _ hl]

end Sys2Proof.Machine
end

section
/-! SUPPORT. The bytes of a region (46_display_controller.md R232): equal pieces, one per row, and within a row one per
pixel. -/

namespace Sys2Proof.Machine

/-- Among pieces of one length, entry `j` of piece `i` stands at `i * m + j`. -/
theorem getElem?_flatMap_range' {α : Type} {f : Nat → List α} {m : Nat} (hf : ∀ k, (f k).length = m) (b n : Nat)
    {i j : Nat} (hi : i < n) (hj : j < m) : ((List.range' b n).flatMap f)[i * m + j]? = (f (b + i))[j]? := by
  induction n generalizing b i with
  | zero => omega
  | succ n ih =>
    rw [List.range'_succ, List.flatMap_cons]
    cases i with
    | zero => rw [Nat.zero_mul, Nat.zero_add, List.getElem?_append_left (by rwa [hf]), Nat.add_zero]
    | succ i =>
      have hsub : (i + 1) * m + j - m = i * m + j := by rw [Nat.succ_mul]; omega
      rw [List.getElem?_append_right (by rw [hf, Nat.succ_mul]; omega), hf, hsub,
        ih (b + 1) (Nat.lt_of_succ_lt_succ hi), Nat.add_assoc, Nat.add_comm 1 i]

theorem length_flatMap_range' {α : Type} {f : Nat → List α} {m : Nat} (hf : ∀ k, (f k).length = m) (b n : Nat) :
    ((List.range' b n).flatMap f).length = n * m := by
  simp [List.length_flatMap, hf]

/-- The bytes of one row of a region. -/
def State.rowBytes (s : State) (a : RenderArea) (row : Nat) : List Byte :=
  (List.range' a.startCol.toNat a.cols).flatMap fun col => s.pixelBytes col row

theorem regionBytes_eq_rows (s : State) (a : RenderArea) :
    s.regionBytes a = (List.range' a.startRow.toNat a.rows).flatMap (s.rowBytes a) := rfl

theorem pixelBytes_length (s : State) (x y : Nat) : (s.pixelBytes x y).length = 2 := rfl

theorem rowBytes_length (s : State) (a : RenderArea) (row : Nat) : (s.rowBytes a row).length = a.cols * 2 :=
  length_flatMap_range' (fun col => pixelBytes_length s col row) _ _

theorem regionBytes_length (s : State) (a : RenderArea) : (s.regionBytes a).length = a.rows * (a.cols * 2) :=
  length_flatMap_range' (rowBytes_length s a) _ _

/-- Byte `j` of the pixel in row `r` and column `c` of a region, both counted from its start. -/
theorem regionBytes_getElem? (s : State) (a : RenderArea) {r c j : Nat} (hr : r < a.rows) (hc : c < a.cols)
    (hj : j < 2) : (s.regionBytes a)[r * (a.cols * 2) + (c * 2 + j)]? =
      (s.pixelBytes (a.startCol.toNat + c) (a.startRow.toNat + r))[j]? := by
  have hin : c * 2 + j < a.cols * 2 := by omega
  rw [regionBytes_eq_rows, getElem?_flatMap_range' (rowBytes_length s a) _ _ hr hin, State.rowBytes,
    getElem?_flatMap_range' (fun col => pixelBytes_length s col _) _ _ hc hj]

/-- A filled framebuffer's full frame is the colour's two bytes, 6144 times (46 R230). -/
theorem regionBytes_fillAll (color : Color) (s : State) :
    (fillAll color s).regionBytes fullFrame = (List.replicate fbWords [hi color, lo color]).flatten := by
  have hpixel : ∀ row ∈ List.range' 0 64, ∀ col ∈ List.range' 0 96,
      (fillAll color s).pixelBytes col row = [hi color, lo color] := by
    intro row hrow col hcol
    rw [List.mem_range'_1] at hrow hcol
    rw [State.pixelBytes, fbWord_fillAll color s (by rw [pixelIndex_eq]; omega)]
  have hrow : ∀ row ∈ List.range' 0 64, (fillAll color s).rowBytes fullFrame row =
      (List.replicate 96 [hi color, lo color]).flatten := by
    intro row h
    exact (List.flatMap_congr (hpixel row h)).trans (by simp [List.flatMap_def])
  calc (fillAll color s).regionBytes fullFrame
      = (List.range' 0 64).flatMap fun _ => (List.replicate 96 [hi color, lo color]).flatten :=
        List.flatMap_congr hrow
    _ = (List.replicate (64 * 96) [hi color, lo color]).flatten := by
        rw [List.flatMap_def, List.map_const', List.length_range', ← List.flatten_replicate_replicate,
          List.flatten_flatten, List.map_replicate]

end Sys2Proof.Machine
end

section
/-! SUPPORT. CLEAR of a block in Ready: the fill, then the full frame (46_display_controller.md R230). -/

namespace Sys2Proof.Machine

open Sys2Proof.Safety

variable {s : State} {i : Instr} {color : Color} {es : List Event} {n : Nat} {d : Ending}

/-- What is left of CLEAR after the fill decides its answer. -/
theorem exec_clear_of_yields (hi : clearsTo i color) (hl : s.halted = false) (hr : s.rstate = .ready)
    (h : Yields (renderRegion fullFrame) ((fillAll color s).busEffect es n d) (fillAll color (start s))) :
    exec i s = .next (((fillAll color s).busEffect es n d).result s) := by
  have hb : Yields (clearBody color) ((fillAll color s).busEffect es n d) (start s) := yields_requireReady hr h
  rw [exec_of_clearsTo hi, request_of_yields hl hb]

theorem fbWord_congr {s t : State} (hf : s.fb = t.fb) (hb : s.boots = t.boots) (i : Nat) : s.fbWord i = t.fbWord i := by
  simp only [State.fbWord, State.fbByte, hf, hb]

/-- The fill stays, however what follows it ends. -/
theorem fbWord_clear_result (color : Color) (s : State) (es : List Event) (n : Nat) (d : Ending) :
    ∀ i < 6144, (((fillAll color s).busEffect es n d).result s).fbWord i = color := by
  intro i hi
  obtain ⟨hf, -, -, -, -, -, hb, -⟩ := result_frame ((fillAll color s).busEffect es n d) s
  exact (fbWord_congr (t := fillAll color s) hf hb i).trans (fbWord_fillAll color s hi)

end Sys2Proof.Machine
end

section
/-! SUPPORT. The drawing requests do not read RSTATE and leave it as it is (46_display_controller.md R237). -/

namespace Sys2Proof.Machine

open Sys2Proof.Safety

theorem writeAll_setRState (ws : List (Nat × Color)) (r : RState) (s : State) :
    writeAll ws (setRState r s) = setRState r (writeAll ws s) := by
  rw [writeAll_eq ws (setRState r s), writeAll_eq ws s, writeAll_fb_congr ws (setRState_fb r s)]
  rfl

/-- A request that only writes words answers with RSTATE as it was. -/
theorem complete_writeAll_setRState (ws : List (Nat × Color)) (r : RState) (s : State) :
    complete (writeAll ws (start (setRState r s))) = setRState r (complete (writeAll ws (start s))) :=
  congrArg complete (writeAll_setRState ws r (start s))

variable {s : State} {x y x0 y0 x1 y1 : Half}

theorem exec_line_setRState (color : Color) (r : RState) (hl : s.halted = false) :
    ∃ t, exec (.line x0 y0 x1 y1 color) s = .next t ∧
      exec (.line x0 y0 x1 y1 color) (setRState r s) = .next (setRState r t) := by
  have hl' : (setRState r s).halted = false := hl
  cases hp : onPanel (coord x0) (coord y0) && onPanel (coord x1) (coord y1) with
  | true =>
    obtain ⟨h0, h1⟩ := Bool.and_eq_true_iff.mp hp
    exact ⟨_, exec_line_on color hl h0 h1,
      (exec_line_on color hl' h0 h1).trans (congrArg _ (complete_writeAll_setRState _ r s))⟩
  | false => exact ⟨_, exec_line_off color hl hp, exec_line_off color hl' hp⟩

theorem exec_string_setRState (color : Color) (text : List Byte) (r : RState) (hl : s.halted = false) :
    ∃ t, exec (.string x y color text) s = .next t ∧
      exec (.string x y color text) (setRState r s) = .next (setRState r t) := by
  have hl' : (setRState r s).halted = false := hl
  cases hf : cellFits (coord x) (coord y) with
  | true =>
    exact ⟨_, exec_string_fits color text hl hf,
      (exec_string_fits color text hl' hf).trans (congrArg _ (complete_writeAll_setRState _ r s))⟩
  | false => exact ⟨_, exec_string_clip color text hl hf, exec_string_clip color text hl' hf⟩

/-- From states that differ in RSTATE alone a drawing request answers states that differ in RSTATE alone. -/
theorem exec_draws_setRState {i : Instr} (hi : draws i = true) (r : RState) (s : State) :
    ∃ t, exec i s = .next t ∧ exec i (setRState r s) = .next (setRState r t) := by
  cases hl : s.halted with
  | true => exact ⟨s, exec_halted i hl, exec_halted i (s := setRState r s) hl⟩
  | false =>
    cases i with
    | line x0 y0 x1 y1 color => exact exec_line_setRState color r hl
    | string x y color text => exact exec_string_setRState color text r hl
    | char x y ch color =>
      rw [exec_char_eq_string ch color hl, exec_char_eq_string ch color (s := setRState r s) hl]
      exact exec_string_setRState color [ch] r hl
    | _ => exact absurd hi Bool.false_ne_true

end Sys2Proof.Machine
end

section
/-! The statements about the display controller (46_display_controller.md). -/

open Sys2Proof Sys2Proof.Machine Sys2Proof.Safety

/-- Settles O22: the full frame of the filled framebuffer is sent. -/
theorem clearFillsAndRendersTheFullFrame : Obligations.ClearFillsAndRendersTheFullFrame := by
  intro s i color hi hl hr h
  have hy := yields_renderRegion_ok (a := fullFrame) (s := fillAll color (start s)) rfl hl h
  rw [regionBytes_fillAll] at hy
  exact ⟨_, exec_clear_of_yields hi hl hr hy, fbWord_clear_result color s _ _ _, rfl⟩

/-- Settles O23: the fill precedes the transfer that fails. -/
theorem clearKeepsTheFillWhenATransferFails : Obligations.ClearKeepsTheFillWhenATransferFails := by
  intro s i color hi hl hr
  refine ⟨fun j hj h => ?_, fun h => ?_⟩
  · have hy := yields_renderRegion_commandFail (a := fullFrame) (s := fillAll color (start s)) j rfl hj hl h
    refine ⟨_, exec_clear_of_yields hi hl hr hy, fbWord_clear_result color s _ _ _, rfl, ?_⟩
    exact afterAll_failedCommandEvents _ _ _
  · have hy := yields_renderRegion_burstFail (a := fullFrame) (s := fillAll color (start s)) rfl hl h
    rw [regionBytes_fillAll] at hy
    refine ⟨_, exec_clear_of_yields hi hl hr hy, fbWord_clear_result color s _ _ _, rfl, ?_⟩
    exact afterAll_failedBurstEvents _ _ _

/-- Settles O24: the body of a valid area in Ready sends its window and its region. -/
theorem renderSendsWindowThenRegion : Obligations.RenderSendsWindowThenRegion := by
  intro s i a hi ha hl hr h
  have hy := yields_renderRegion_ok (s := start s) ha hl h
  exact ⟨_, exec_of_rendersArea hi s, completedAs_request hl (yields_requireReady hr hy)⟩

/-- Settles O25: rows are pieces of equal length, and so are the pixels in a row. -/
theorem regionBytesAreRowMajor : Obligations.RegionBytesAreRowMajor := by
  intro s a _
  constructor
  · rw [regionBytes_length, Nat.mul_comm, Nat.mul_comm a.cols 2]
    rfl
  · intro row col hr hr' hc hc' n
    have hrow : row - a.startRow.toNat < a.rows := by unfold RenderArea.rows; omega
    have hcol : col - a.startCol.toNat < a.cols := by unfold RenderArea.cols; omega
    have hn : n = (row - a.startRow.toNat) * (a.cols * 2) + (col - a.startCol.toNat) * 2 := by
      simp only [n, RenderArea.cols]; ring
    have hbyte {j : Nat} (hj : j < 2) : (s.regionBytes a)[n + j]? = (s.pixelBytes col row)[j]? := by
      rw [hn, Nat.add_assoc, regionBytes_getElem? s a hrow hcol hj, Nat.add_sub_cancel' hr, Nat.add_sub_cancel' hc]
    exact ⟨hbyte Nat.two_pos, hbyte Nat.one_lt_two⟩

/-- Settles O28: the bus-using requests test RSTATE first, the drawing requests never read it. -/
theorem busRequestsBeforeReadyFault : Obligations.BusRequestsBeforeReadyFault := by
  refine ⟨fun s i hi hl hr => ?_, fun s t i r hi h => ?_⟩
  · obtain ⟨rest, he⟩ := exec_of_needsReady hi s
    exact ⟨_, he, faultedAs_request_early hl hr⟩
  · obtain ⟨t', ht, hr⟩ := exec_draws_setRState hi r s
    obtain rfl := Host.Outcome.next.inj (ht.symm.trans h)
    exact hr

/-- Settles O29: SCROLL is one command sequence of seven bytes. -/
theorem scrollSendsSetupThenSwitch : Obligations.ScrollSendsSetupThenSwitch := by
  intro s hOffset v interval enable hl bytes
  have hbody (hr : s.rstate = .ready) : scrollBody hOffset v interval enable (start s) =
      sendSequence .command bytes (start s) := scrollBody_ready hOffset v interval enable hl hr
  exact ⟨_, rfl, fun hr h => completedAs_request_sequence hl (hbody hr) h, faultedAs_request_early hl,
    fun j hj hr h => faultedAs_request_sequence j hj hl (hbody hr) h⟩

/-- Settles O30: INVERT is a command sequence of one byte. -/
theorem invertSendsOneOpcode : Obligations.InvertSendsOneOpcode := by
  intro s on hl opcode
  have hbody (hr : s.rstate = .ready) : invertBody on (start s) = sendSequence .command [opcode] (start s) :=
    invertBody_ready on hl hr
  refine ⟨_, rfl, fun hr h => ?_, faultedAs_request_early hl, fun hr h => ?_⟩
  · exact completedAs_request_sequence hl (hbody hr) fun j hj => by rwa [Nat.lt_one_iff.mp hj]
  · exact faultedAs_request_sequence (bs := [opcode]) 0 Nat.one_pos hl (hbody hr) ⟨nofun, h⟩

/-- Settles O27: in Ready the area test comes next, before any event. -/
theorem invalidAreaFaultsBeforeAnyEvent : Obligations.InvalidAreaFaultsBeforeAnyEvent := by
  intro s startCol endCol startRow endRow hn hl hr
  have ha : (⟨startCol, endCol, startRow, endRow⟩ : RenderArea).valid = false := by
    rwa [← Bool.not_eq_true, RenderArea.valid_iff]
  exact ⟨_, rfl, faultedAs_request_raise hl
    ((requireReady_ready (s := start s) hr).trans (renderRegion_invalid ha (start s)))⟩
end

section
/-! SUPPORT. Which faults each operation can raise (60_exceptions.md R260 to R265): a request that raises ends in the
fault of its body, and a body raises only what its tests and its transfers raise. -/

namespace Sys2Proof.Machine

open Sys2Proof.Safety

/-- A fault of the state, if it has one, is of these kinds (60 R265). -/
def RaisesOnly (ks : List FaultKind) (s : State) : Prop := ∀ k, s.fault.kind = some k → k ∈ ks

variable {ks : List FaultKind} {k : FaultKind} {s : State} {body : State → State}

theorem raisesOnly_of_live (ks : List FaultKind) (hl : s.halted = false) : RaisesOnly ks s := by
  intro k hk
  simp [State.halted, hk] at hl

theorem raisesOnly_raise (hk : k ∈ ks) (s : State) : RaisesOnly ks (raise k s) := by
  intro k' hk'
  obtain rfl : k = k' := Option.some.inj hk'
  exact hk

theorem raisesOnly_request (hl : s.halted = false) (hb : RaisesOnly ks (body (start s))) :
    RaisesOnly ks (request body s) := by
  cases hh : (body (start s)).halted with
  | true => rwa [request_faults hl hh]
  | false => rw [request_completes hl hh]; exact raisesOnly_of_live ks hh

theorem raisesOnly_requireReady (ho : .order ∈ ks) (hb : RaisesOnly ks (body s)) :
    RaisesOnly ks (requireReady body s) := by
  by_cases hr : s.rstate = .ready
  · rwa [requireReady_ready hr]
  · rw [requireReady_early hr]; exact raisesOnly_raise ho s

/-- A command sequence raises only the sub-cause its sender gives it (41 R131, 60 R262). -/
theorem raisesOnly_sendSequence (bs : List Byte) (hl : s.halted = false) (hk : k ∈ ks) :
    RaisesOnly ks (sendSequence k bs s) := by
  rcases sendSequence_cases k bs hl with ⟨-, h⟩ | ⟨j, hj, -, h⟩
  · rw [h]; exact raisesOnly_of_live ks hl
  · rw [h]; exact raisesOnly_raise hk _

/-- A region render raises area for an area that is not valid, and command or burst for a transfer (46 R231). -/
theorem raisesOnly_renderRegion (a : RenderArea) (hl : s.halted = false) (ha : a.valid = false → .area ∈ ks)
    (hc : .command ∈ ks) (hb : .burst ∈ ks) : RaisesOnly ks (renderRegion a s) := by
  rcases renderRegion_cases a hl with ⟨hv, h⟩ | ⟨-, ⟨j, hj, -, h⟩ | ⟨-, h⟩ | ⟨-, h⟩⟩
  · rw [h]; exact raisesOnly_raise (ha hv) s
  · rw [h]; exact raisesOnly_raise hc _
  · rw [h]; exact raisesOnly_raise hb _
  · rw [h]; exact raisesOnly_of_live ks hl

theorem raisesOnly_render (a : RenderArea) (hl : s.halted = false) :
    RaisesOnly [.order, .area, .command, .burst] (renderBody a s) :=
  raisesOnly_requireReady (by simp) (raisesOnly_renderRegion a hl (by simp) (by simp) (by simp))

/-- The full frame is a valid area, so its render never raises area (43 R170, 60 R265). -/
theorem raisesOnly_renderAll (hl : s.halted = false) :
    RaisesOnly [.order, .command, .burst] (renderBody fullFrame s) :=
  raisesOnly_requireReady (by simp) (raisesOnly_renderRegion fullFrame hl nofun (by simp) (by simp))

theorem raisesOnly_clear (color : Color) (hl : s.halted = false) :
    RaisesOnly [.order, .command, .burst] (clearBody color s) :=
  raisesOnly_requireReady (by simp)
    (raisesOnly_renderRegion fullFrame (s := fillAll color s) hl nofun (by simp) (by simp))

theorem raisesOnly_scroll (hOffset v interval : Byte) (enable : Bool) (hl : s.halted = false) :
    RaisesOnly [.order, .command] (scrollBody hOffset v interval enable s) := by
  refine raisesOnly_requireReady (by simp) ?_
  rw [sendSequence_snoc _ _ _ hl]
  exact raisesOnly_sendSequence _ hl (by simp)

theorem raisesOnly_invert (on : Bool) (hl : s.halted = false) :
    RaisesOnly [.order, .command] (invertBody on s) := by
  refine raisesOnly_requireReady (by simp) ?_
  rw [← sendSequence_singleton _ _ hl]
  exact raisesOnly_sendSequence _ hl (by simp)

/-- RESET raises only init, for a byte of INIT_PROG (42 R157). -/
theorem raisesOnly_reset (hl : s.halted = false) : RaisesOnly [.init] (resetBody s) := by
  rcases txAllOk_or_fails s s.cfg.initProg.length with h | ⟨j, hj, h⟩
  · rw [resetBody_ok hl h]
    exact raisesOnly_of_live _ ((resetPulse_halted s).trans hl)
  · rw [resetBody_fail j hj hl h]
    exact raisesOnly_raise (by simp) _

theorem raisesOnly_line (x0 y0 x1 y1 : Int) (color : Color) (hl : s.halted = false) :
    RaisesOnly [.coord] (lineBody x0 y0 x1 y1 color s) := by
  cases h : onPanel x0 y0 && onPanel x1 y1 with
  | true =>
    obtain ⟨h0, h1⟩ := Bool.and_eq_true_iff.mp h
    obtain ⟨q, e⟩ := lineBody_eq color hl h0 h1
    rw [e]
    exact raisesOnly_of_live _ ((writeAll_halted _ s).trans hl)
  | false => rw [lineBody_off color s h]; exact raisesOnly_raise (by simp) s

/-- STRING of a live block leaves it live, whether its origin fits or not (45 R206, 60 R263). -/
theorem exec_string_live {x y : Half} {t : State} (color : Color) (text : List Byte) (hl : s.halted = false)
    (h : exec (.string x y color text) s = .next t) : t.halted = false := by
  cases hf : cellFits (coord x) (coord y) with
  | true =>
    obtain rfl := Host.Outcome.next.inj ((exec_string_fits color text hl hf).symm.trans h)
    exact (writeAll_halted _ (start s)).trans hl
  | false =>
    obtain rfl := Host.Outcome.next.inj ((exec_string_clip color text hl hf).symm.trans h)
    exact hl

/-- A reserved byte raises at once (60 R264). -/
theorem exec_reserved_live (b : Byte) (hl : s.halted = false) : exec (.reserved b) s = .next (raise .opcode s) := by
  rw [exec, execReserved, if_neg (by simp [hl])]

theorem allowedFaults_of_wire {i : Instr} {w : WireOp × List Byte} (h : i.wire? = some w) :
    allowedFaults i = [.command, .init] := by
  cases i <;> simp [Instr.wire?, allowedFaults] at h ⊢

theorem wireFault_mem (s : State) : wireFault s ∈ [.command, .init] := by
  unfold wireFault; split <;> simp

/-- An instruction of a live block raises only what its row of the table allows (60 R265). -/
theorem exec_raisesOnly {i : Instr} {t : State} (hl : s.halted = false) (h : exec i s = .next t) :
    RaisesOnly (allowedFaults i) t := by
  have hreq {body : State → State} (hi : exec i s = .next (request body s))
      (hb : RaisesOnly (allowedFaults i) (body (start s))) : RaisesOnly (allowedFaults i) t := by
    obtain rfl := Host.Outcome.next.inj (hi.symm.trans h)
    exact raisesOnly_request hl hb
  cases hw : i.wire? with
  | some w =>
    obtain rfl := Host.Outcome.next.inj ((exec_of_wire (o := w.1) (ps := w.2) hw s).symm.trans h)
    rw [allowedFaults_of_wire hw, wireCommand_live _ _ hl]
    exact raisesOnly_sendSequence _ hl (wireFault_mem s)
  | none =>
    cases i with
    | reset => exact hreq rfl (raisesOnly_reset hl)
    | clear color => exact hreq rfl (raisesOnly_clear color hl)
    | clearRgb r g b => exact hreq rfl (raisesOnly_clear (rgb565 r g b) hl)
    | render c0 c1 r0 r1 => exact hreq rfl (raisesOnly_render ⟨c0, c1, r0, r1⟩ hl)
    | renderAll => exact hreq rfl (raisesOnly_renderAll hl)
    | scroll hOffset v n e => exact hreq rfl (raisesOnly_scroll hOffset v n e hl)
    | invert on => exact hreq rfl (raisesOnly_invert on hl)
    | line x0 y0 x1 y1 color => exact hreq rfl (raisesOnly_line _ _ _ _ color hl)
    | string x y color text => exact raisesOnly_of_live _ (exec_string_live color text hl h)
    | char x y ch color =>
      rw [exec_char_eq_string ch color hl] at h
      exact raisesOnly_of_live _ (exec_string_live color [ch] hl h)
    | reserved b0 =>
      obtain rfl := Host.Outcome.next.inj ((exec_reserved_live b0 hl).symm.trans h)
      exact raisesOnly_raise (by simp [allowedFaults]) s
    | _ => simp [Instr.wire?] at hw

end Sys2Proof.Machine
end

section
/-! SUPPORT. RENDER of a block in Ready answers the effect of its region render (46_display_controller.md R231). -/

namespace Sys2Proof.Machine

open Sys2Proof.Safety

theorem exec_render_of_yields {s : State} {i : Instr} {a : RenderArea} {es : List Event} {n : Nat} {d : Ending}
    (hi : rendersArea i a) (hl : s.halted = false) (hr : s.rstate = .ready)
    (h : Yields (renderRegion a) (s.busEffect es n d) (start s)) :
    exec i s = .next ((s.busEffect es n d).result s) := by
  rw [exec_of_rendersArea hi]
  exact congrArg _ (request_of_yields hl (yields_requireReady hr h))

end Sys2Proof.Machine
end

section
/-! SUPPORT. FAULT's image by its two codes; it does not depend on FAULT.rqi (10_state.md R25). -/

namespace Sys2Proof.Machine

theorem FaultReg.image_none (n : Nat) : FaultReg.image { kind := none, rqi := n } = 0#4 ++ 0#2 := rfl

theorem FaultReg.image_some (k : FaultKind) (n : Nat) :
    FaultReg.image { kind := some k, rqi := n } = k.sub ++ k.cause := rfl

end Sys2Proof.Machine
end

section
/-! The statements about faults (60_exceptions.md). -/

open Sys2Proof Sys2Proof.Machine Sys2Proof.Safety

/-- Settles O47: by the instruction, `exec_raisesOnly`. -/
theorem faultsAreTheAllowedOnes : Obligations.FaultsAreTheAllowedOnes :=
  fun _ _ _ hl h => exec_raisesOnly hl h

/-- Settles O31: the events of a region render end with the transfer that fails, which leaves the lines asserted. -/
theorem renderHaltsAtItsFirstFailedTransfer : Obligations.RenderHaltsAtItsFirstFailedTransfer := by
  intro s i a hi ha hl hr window
  refine ⟨fun j hj h => ?_, fun h => ?_⟩
  · have hy := yields_renderRegion_commandFail (s := start s) j ha hj hl h
    exact ⟨_, exec_render_of_yields hi hl hr hy, rfl, afterAll_failedCommandEvents _ _ _⟩
  · have hy := yields_renderRegion_burstFail (s := start s) ha hl h
    exact ⟨_, exec_render_of_yields hi hl hr hy, rfl, afterAll_failedBurstEvents _ _ _⟩

/-- Settles O41: the byte is decoded as a packet of its own, which raises; a halted block does not move. -/
theorem reservedByteHaltsTheBlock : Obligations.ReservedByteHaltsTheBlock := by
  refine ⟨fun s b hl => ?_, fun s b rest hp hl hb hq hres => ?_⟩
  · exact ⟨_, exec_reserved_live b hl, faultedAs_raise_start .opcode s, rfl, rfl, rfl⟩
  · have hd : decodeRequest s.requests = .ok (.reserved b, rest) := by
      rw [hq, decodeRequest_reserved rest ((isReservedByte_iff b).mpr hres)]
    have hstep : step s = .next (raise .opcode { s with requests := rest }) := by
      rw [stepRunsTheDecodedRequest s _ rest hp hl hb hd]
      exact exec_reserved_live b hl
    exact ⟨_, hstep, faultedAs_raise_start .opcode { s with requests := rest }, rfl, rfl,
      waitingAndHaltedBlocksDoNotMove _ hp (.inl rfl)⟩

/-- Settles O53: each image is the two codes of its fault, and the codes are as listed. -/
theorem faultImages : Obligations.FaultImages := by
  intro n
  simp only [FaultReg.image_some, FaultReg.image_none]
  decide
end

section
/-! SUPPORT. What a block with the power-on signal does next (70_reset_and_hazards.md R300). -/

namespace Sys2Proof.Machine

theorem fetch_powerOn {s : State} (hp : s.powerOnSignal = true) : fetch s = .idle (powerOn s) := by
  rw [fetch, if_pos hp]

theorem step_powerOn {s : State} (hp : s.powerOnSignal = true) : step s = .next (powerOn s) := by
  rw [step, fetch_powerOn hp]

/-- No byte of FB has been written since power-on, so each reads the draw of the new boot (10 R40, 60 R269). -/
theorem fbByte_powerOn (s : State) (a : Nat) : (powerOn s).fbByte a = Config.fbPowerOn (s.boots + 1) a := rfl

end Sys2Proof.Machine
end

section
/-! The statement about power-on reset (70_reset_and_hazards.md). -/

open Sys2Proof Sys2Proof.Machine Sys2Proof.Safety

/-- Settles O13: the signal is obeyed before anything is fetched, and each value is a field of `powerOn`; a halted
block without the signal fetches nothing. -/
theorem powerOnResetFromAnyState : Obligations.PowerOnResetFromAnyState := by
  refine ⟨fun s hp => ⟨powerOn s, step_powerOn hp, ?_⟩, fun s hp hl => waitingAndHaltedBlocksDoNotMove s hp (.inl hl)⟩
  exact ⟨rfl, rfl, rfl, rfl, rfl, rfl, rfl, rfl, fbByte_powerOn s, rfl, rfl, rfl, rfl⟩
end
